-- ==== Sys2Proof/Word.lean ====
section
/-!
DEFINITION. The two word types of the block (00_scope.md R6: byte width 8, word width 16, both unsigned).
-/

namespace Sys2Proof

/-- 8-bit unsigned value (R6). -/
abbrev Byte := BitVec 8

/-- 16-bit unsigned value; every address is one (R6, R10: arithmetic on it is modulo 65536). -/
abbrev Word := BitVec 16

end Sys2Proof
end

