-- ==== Sys2Proof/Config.lean ====
section
/-!
DEFINITION. What the source leaves to the caller (00_scope.md R7): the values the model gives the three reset parameters,
what an unlisted address of memory reads as, and the free value of IN.
-/

namespace Sys2Proof.Config

/-- What an address of memory that is not listed reads as; with nothing listed this is the whole of `MEM_INIT`.
DESIGN CHOICE, log entry 3: R34 leaves `MEM_INIT` to the loader. UNSAFE. -/
def unlistedByte : Byte := 0x00

/-- `SP_INIT` of R7 and R34. DESIGN CHOICE, log entry 1: the spec gives none; 0x2400 is the default start state of
95_test_vectors.md. UNSAFE. -/
def spInit : Word := 0x2400

/-- `PC_INIT` of R7 and R34. DESIGN CHOICE, log entry 2: 0x0000 is the value R7 names for zero-initialisation. UNSAFE. -/
def pcInit : Word := 0x0000

/-- `IoIn` of R7 and R70: the byte the environment answers to the `draw`-th IN executed since reset, on the port it
names. A FREE VALUE (log entry 4): it has no body, so nothing can be proved of it but that it is a byte. SAFE. -/
opaque ioIn (draw : Nat) (port : Byte) : Byte

end Sys2Proof.Config
end

