-- ==== Sys2Proof/Machine/State.lean ====
section
/-!
DEFINITION. The state of the block: the record of 10_state.md R35, and beside it the two fields of the model's own that hold
its side of the I/O interface (20_memory.md R70). Also the ways a step could stop (none does) and the state after reset.
-/

namespace Sys2Proof.Machine

/-- The condition flags (R25) and the auxiliary-carry field (R27). -/
structure Flags where
  /-- Zero -/
  z : Bool
  /-- Sign -/
  s : Bool
  /-- Parity: true when even -/
  p : Bool
  /-- Carry, or borrow -/
  cy : Bool
  /-- Auxiliary carry: always false (R27). It is read by PUSH PSW and written by nothing; `Inv` of Safety.lean says it is
  false, and every step keeps that. -/
  ac : Bool
  deriving DecidableEq, Repr

/-- STATUS, the run status (R31). -/
inductive Status where
  | running
  | halted
  /-- entered by UnimplementedOpcode: the opcode byte and its address (R240) -/
  | faulted (op : Byte) (addr : Word)
  deriving DecidableEq, Repr

/-- An action on the I/O interface (R70). -/
inductive IoEvent where
  /-- IN: the port, and the byte the environment answered -/
  | input (port value : Byte)
  /-- OUT: the port, and the byte presented -/
  | output (port value : Byte)
  deriving DecidableEq, Repr

/-- The 65536 bytes (R50) as the bytes that differ from `Config.unlistedByte`, by address. -/
abbrev Memory := List Host.Cell

/-- The canonical form: addresses strictly rising and below 65536, no byte equal to what an unlisted address reads as. -/
abbrev Memory.wf (m : Memory) : Prop :=
  m.Pairwise (fun x y => x.1 < y.1) ∧ ∀ c ∈ m, c.1 < 65536 ∧ c.2 ≠ Config.unlistedByte

/-- The state record (R35). -/
structure State where
  /-- the seven byte registers (R20); the pairs are views of them (R22, R23) -/
  a : Byte
  b : Byte
  c : Byte
  d : Byte
  e : Byte
  h : Byte
  l : Byte
  /-- F (R25, R27) -/
  flags : Flags
  /-- SP (R29) -/
  sp : Word
  /-- PC (R30) -/
  pc : Word
  /-- INTE (R32) -/
  inte : Bool
  /-- STATUS (R31) -/
  status : Status
  /-- MEM (R50) -/
  mem : Memory
  /-- the model's own: how many IN values have been drawn (log entry 4) -/
  draws : Nat
  /-- the model's own: the I/O events so far, oldest first (log entry 5) -/
  io : List IoEvent
  deriving DecidableEq, Repr

/-- Ways a step could stop the machine: NONE. The block's only exception, UnimplementedOpcode, is a next state with STATUS
Faulted (R240), and memory, arithmetic and I/O never fault (R243), so no constructor exists and nobody raises one: safe. -/
inductive Fault : Type
  deriving DecidableEq, Repr

/-- Ways the model can answer that it gives an instruction no meaning. -/
inductive Refusal where
  /-- Raised by an arm of `exec` whose instruction has no meaning yet. No arm is such: every instruction has its meaning.
  It would be safe. -/
  | notModelled (mnemonic : String)
  deriving DecidableEq, Repr

/-- The outcome of an instruction. -/
abbrev Result := Host.Outcome State Fault Refusal

/-- The state reset constructs (R34, R270), with the three open parameters of R7 as arguments. -/
def State.resetWith (spInit pcInit : Word) (memInit : Memory) : State where
  a := 0x00
  b := 0x00
  c := 0x00
  d := 0x00
  e := 0x00
  h := 0x00
  l := 0x00
  flags := ⟨false, false, false, false, false⟩
  sp := spInit
  pc := pcInit
  inte := false
  status := .running
  mem := memInit
  draws := 0
  io := []

/-- The machine right after reset, at the values Config names for the open parameters; memory has nothing listed. -/
def State.reset : State := State.resetWith Config.spInit Config.pcInit []

end Sys2Proof.Machine
end

