-- ==== Sys2Proof/Syntax.lean ====
section
/-!
DEFINITION. The instructions as syntax. `Instr` has one constructor for every row of opcode_table.json, by
length and then by opcode byte; a row's operand bytes, if it has any, are the constructor's argument (30_encoding.md R83). The small types name the
operand fields of R84, R85, R89, R90; `Form` names the formats of the table, each with its field values, so that what holds
of a whole family is said once.
-/

namespace Sys2Proof

/-- The registers a register field can select (30_encoding.md R84; code 110, the memory operand M, is a form of its own). -/
inductive Reg8 where
  | b | c | d | e | h | l | a
  deriving DecidableEq, Repr

/-- The pairs of `RP[p]` (R85: LXI, INX, DCX, DAD). -/
inductive Rp where
  | bc | de | hl | sp
  deriving DecidableEq, Repr

/-- The pairs of `RPS[p]` (R85: PUSH, POP). -/
inductive Rps where
  | bc | de | hl | psw
  deriving DecidableEq, Repr

/-- The pairs LDAX and STAX go through (R88, field X). -/
inductive Ind where
  | bc | de
  deriving DecidableEq, Repr

/-- The eight ALU operations (R89). -/
inductive AluOp where
  | add | adc | sub | sbb | ana | xra | ora | cmp
  deriving DecidableEq, Repr

/-- The eight conditions (R90). -/
inductive Cond where
  | nz | z | nc | c | po | pe | p | m
  deriving DecidableEq, Repr

/-- The formats of opcode_table.json (its column "format"), each with its fields and its operand bytes. -/
inductive Form where
  | nop | hlt | ei | di
  | movRR (dst src : Reg8) | movRM (dst : Reg8) | movMR (src : Reg8)
  | mvi (dst : Reg8) (imm : Byte) | mviM (imm : Byte) | lxi (p : Rp) (imm : Word)
  | lda (addr : Word) | sta (addr : Word) | lhld (addr : Word) | shld (addr : Word)
  | ldax (p : Ind) | stax (p : Ind) | xchg
  | aluR (op : AluOp) (src : Reg8) | aluM (op : AluOp) | aluI (op : AluOp) (imm : Byte)
  | inr (r : Reg8) | inrM | dcr (r : Reg8) | dcrM
  | inx (p : Rp) | dcx (p : Rp) | dad (p : Rp) | daa
  | rlc | rrc | ral | rar | stc | cmc | cma
  | push (p : Rps) | pop (p : Rps) | xthl | sphl
  | jmp (addr : Word) | jcc (cc : Cond) (addr : Word)
  | call (addr : Word) | ccc (cc : Cond) (addr : Word)
  | ret | rcc (cc : Cond) | rst (n : BitVec 3) | pchl
  | inPort (port : Byte) | outPort (port : Byte)
  | undocumented (op : Byte)
  deriving DecidableEq, Repr

/-- The instructions: one constructor per row of opcode_table.json. -/
inductive Instr where
  -- three bytes (R88)
  | lxiB (imm : Word) | lxiD (imm : Word) | lxiH (imm : Word) | shld (addr : Word) | lhld (addr : Word)
  | lxiSp (imm : Word) | sta (addr : Word) | lda (addr : Word) | jnz (addr : Word) | jmp (addr : Word)
  | cnz (addr : Word) | jz (addr : Word) | cz (addr : Word) | call (addr : Word) | jnc (addr : Word) | cnc (addr : Word)
  | jc (addr : Word) | cc (addr : Word) | jpo (addr : Word) | cpo (addr : Word) | jpe (addr : Word) | cpe (addr : Word)
  | jp (addr : Word) | cp (addr : Word) | jm (addr : Word) | cm (addr : Word)
  -- two bytes (R88)
  | mviB (imm : Byte) | mviC (imm : Byte) | mviD (imm : Byte) | mviE (imm : Byte) | mviH (imm : Byte)
  | mviL (imm : Byte) | mviM (imm : Byte) | mviA (imm : Byte) | adi (imm : Byte) | aci (imm : Byte)
  | outPort (port : Byte) | sui (imm : Byte) | inPort (port : Byte) | sbi (imm : Byte) | ani (imm : Byte)
  | xri (imm : Byte) | ori (imm : Byte) | cpi (imm : Byte)
  -- one byte (R88)
  | nop | staxB | inxB | inrB | dcrB | rlc | undocumented08 | dadB | ldaxB | dcxB | inrC | dcrC | rrc | undocumented10
  | staxD | inxD | inrD | dcrD | ral | undocumented18 | dadD | ldaxD | dcxD | inrE | dcrE | rar | undocumented20 | inxH
  | inrH | dcrH | daa | undocumented28 | dadH | dcxH | inrL | dcrL | cma | undocumented30 | inxSp | inrM | dcrM | stc
  | undocumented38 | dadSp | dcxSp | inrA | dcrA | cmc | movBB | movBC | movBD | movBE | movBH | movBL | movBM | movBA
  | movCB | movCC | movCD | movCE | movCH | movCL | movCM | movCA | movDB | movDC | movDD | movDE | movDH | movDL
  | movDM | movDA | movEB | movEC | movED | movEE | movEH | movEL | movEM | movEA | movHB | movHC | movHD | movHE
  | movHH | movHL | movHM | movHA | movLB | movLC | movLD | movLE | movLH | movLL | movLM | movLA | movMB | movMC
  | movMD | movME | movMH | movML | hlt | movMA | movAB | movAC | movAD | movAE | movAH | movAL | movAM | movAA | addB
  | addC | addD | addE | addH | addL | addM | addA | adcB | adcC | adcD | adcE | adcH | adcL | adcM | adcA | subB | subC
  | subD | subE | subH | subL | subM | subA | sbbB | sbbC | sbbD | sbbE | sbbH | sbbL | sbbM | sbbA | anaB | anaC | anaD
  | anaE | anaH | anaL | anaM | anaA | xraB | xraC | xraD | xraE | xraH | xraL | xraM | xraA | oraB | oraC | oraD | oraE
  | oraH | oraL | oraM | oraA | cmpB | cmpC | cmpD | cmpE | cmpH | cmpL | cmpM | cmpA | rnz | popB | pushB | rst0 | rz
  | ret | undocumentedCB | rst1 | rnc | popD | pushD | rst2 | rc | undocumentedD9 | undocumentedDD | rst3 | rpo | popH
  | xthl | pushH | rst4 | rpe | pchl | xchg | undocumentedED | rst5 | rp | popPsw | di | pushPsw | rst6 | rm | sphl | ei
  | undocumentedFD | rst7
  deriving DecidableEq, Repr

end Sys2Proof
end

