-- ==== Sys2Proof/Machine/Ops.lean ====
section
/-!
DEFINITION. The named operations over memory, registers, the stack, the program counter and the I/O interface, and the one
exception's entry. There is no return from an exception (60_exceptions.md R247).
-/

namespace Sys2Proof.Machine

/-- The low byte of a word, `v[7:0]` (00_scope.md R8). -/
def loByte (v : Word) : Byte := v.extractLsb' 0 8

/-- The high byte of a word, `v[15:8]` (R8). -/
def hiByte (v : Word) : Byte := v.extractLsb' 8 8

/-- `hi : lo` (R8). -/
def word (hi lo : Byte) : Word := hi ++ lo

/-! ## Memory (20_memory.md R50-R54) -/

/-- The byte listed at an address, or what an unlisted address reads as. -/
def Memory.lookup (n : Nat) : Memory → Byte
  | [] => Config.unlistedByte
  | c :: m => if c.1 = n then c.2 else Memory.lookup n m

/-- The memory with nothing listed at an address. -/
def Memory.erase (n : Nat) (m : Memory) : Memory := m.filter (fun c => c.1 ≠ n)

/-- The memory with a byte listed before the first higher address. -/
def Memory.insertAt (n : Nat) (v : Byte) : Memory → Memory
  | [] => [(n, v)]
  | c :: m => if n < c.1 then (n, v) :: c :: m else c :: Memory.insertAt n v m

/-- `MemRead(addr, 1)` (R52). -/
def Memory.read (m : Memory) (addr : Word) : Byte := m.lookup addr.toNat

/-- `MemWrite(addr, 1, v)` (R53), keeping the canonical form. -/
def Memory.write (m : Memory) (addr : Word) (v : Byte) : Memory :=
  if v = Config.unlistedByte then m.erase addr.toNat else (m.erase addr.toNat).insertAt addr.toNat v

/-- `MemRead(addr, 2)` (R54): little-endian, the second address wraps. -/
def Memory.readWord (m : Memory) (addr : Word) : Word := word (m.read (addr + 1)) (m.read addr)

/-- `MemWrite(addr, 2, v)` (R54): the low byte first. -/
def Memory.writeWord (m : Memory) (addr v : Word) : Memory :=
  (m.write addr (loByte v)).write (addr + 1) (hiByte v)

/-- The memory with bytes placed from an address on, as a loader places them (R72). -/
def Memory.load (m : Memory) (addr : Word) : List Byte → Memory
  | [] => m
  | v :: vs => Memory.load (m.write addr v) (addr + 1) vs

/-! ## Registers (10_state.md R20-R23) -/

/-- `R[r]` (30_encoding.md R84). -/
def State.reg (s : State) : Reg8 → Byte
  | .b => s.b
  | .c => s.c
  | .d => s.d
  | .e => s.e
  | .h => s.h
  | .l => s.l
  | .a => s.a

/-- `R[r] <- v` (R84). -/
def State.setReg (s : State) (r : Reg8) (v : Byte) : State :=
  match r with
  | .b => { s with b := v }
  | .c => { s with c := v }
  | .d => { s with d := v }
  | .e => { s with e := v }
  | .h => { s with h := v }
  | .l => { s with l := v }
  | .a => { s with a := v }

/-- `BC = B : C` (R22). -/
def State.bc (s : State) : Word := word s.b s.c

/-- `DE = D : E` (R22). -/
def State.de (s : State) : Word := word s.d s.e

/-- `HL = H : L` (R22). -/
def State.hl (s : State) : Word := word s.h s.l

/-- `BC <- v` (R22). -/
def State.setBC (s : State) (v : Word) : State := { s with b := hiByte v, c := loByte v }

/-- `DE <- v` (R22). -/
def State.setDE (s : State) (v : Word) : State := { s with d := hiByte v, e := loByte v }

/-- `HL <- v` (R22). -/
def State.setHL (s : State) (v : Word) : State := { s with h := hiByte v, l := loByte v }

/-! ## Program counter and run status (R30, R31) -/

/-- `PC <- npc`, with `npc = pc + len` modulo 65536 (30_encoding.md R81). -/
def State.advance (s : State) (len : Word) : State := { s with pc := s.pc + len }

/-- `PC <- target` (R81). -/
def State.jump (s : State) (target : Word) : State := { s with pc := target }

/-- `raise UnimplementedOpcode(op, pc)` (60_exceptions.md R240, R246): STATUS records the opcode byte and its address, and
nothing else changes. -/
def State.raiseUnimplemented (s : State) (op : Byte) : State := { s with status := .faulted op s.pc }

/-- The meaning of an opcode with no handler: DAA (R143) and the twelve of R230. PC stays at the opcode. -/
def unimplemented (op : Byte) (s : State) : Result := .next (s.raiseUnimplemented op)

/-- The Dispatcher executes an instruction only when STATUS is Running (R31, R273). -/
def State.isRunning (s : State) : Bool := decide (s.status = .running)

/-! ## Memory of the state -/

/-- `MemWrite(addr, 1, v)`. -/
def State.storeByte (s : State) (addr : Word) (v : Byte) : State := { s with mem := s.mem.write addr v }

/-- `MemWrite(addr, 2, v)`. -/
def State.storeWord (s : State) (addr v : Word) : State := { s with mem := s.mem.writeWord addr v }

/-- The external loader (20_memory.md R72): bytes placed from an address on. -/
def State.loadBytes (s : State) (addr : Word) (bytes : List Byte) : State := { s with mem := s.mem.load addr bytes }

/-! ## Stack (20_memory.md R60, R61) -/

/-- `Push16(v)` (R60): the high byte at SP-1, the low byte at SP-2, then SP is 2 less. -/
def State.push16 (s : State) (v : Word) : State :=
  { s with
    mem := (s.mem.write (s.sp - 1) (hiByte v)).write (s.sp - 2) (loByte v)
    sp := s.sp - 2 }

/-- The word `Pop16()` returns (R61). -/
def State.top16 (s : State) : Word := word (s.mem.read (s.sp + 1)) (s.mem.read s.sp)

/-- What `Pop16()` leaves: SP 2 more (R61). -/
def State.drop16 (s : State) : State := { s with sp := s.sp + 2 }

/-! ## The I/O interface (20_memory.md R70) -/

/-- The byte `IoIn(port)` delivers now: the free value at the next draw (log entry 4). -/
def State.ioIn (s : State) (port : Byte) : Byte := Config.ioIn s.draws port

/-- The draw is used up and the exchange recorded. -/
def State.drawn (s : State) (port : Byte) : State :=
  { s with draws := s.draws + 1, io := s.io ++ [.input port (s.ioIn port)] }

/-- `IoOut(port, v)`: the event is presented; nothing of the block's own state changes (R70). -/
def State.ioOut (s : State) (port v : Byte) : State := { s with io := s.io ++ [.output port v] }

end Sys2Proof.Machine
end

