-- ==== Sys2Proof/Machine/Flags.lean ====
section
/-!
DEFINITION. The ALU and the flag generator (40_arith_logic.md R110, R111), the conditions (41_stack_control.md R173) and the
packed flag byte (10_state.md R28).
-/

namespace Sys2Proof.Machine

/-- `add8(a, b, cin) = (res, cy)` (R110), by the exact sum. -/
def add8 (a b : Byte) (cin : Bool) : Byte × Bool :=
  let t := a.toNat + b.toNat + cin.toNat
  (BitVec.ofNat 8 t, decide (t > 0xFF))

/-- `sub8(a, b, bin) = (res, cy)` (R110), by the exact difference; CY is the borrow. -/
def sub8 (a b : Byte) (bin : Bool) : Byte × Bool :=
  let t : Int := (a.toNat : Int) - b.toNat - bin.toNat
  (BitVec.ofInt 8 t, decide (t < 0))

/-- `parity_even(v)` (R111): the exclusive OR of the eight bits is 0. -/
def parityEven (v : Byte) : Bool :=
  (v.getLsbD 0 ^^ v.getLsbD 1 ^^ v.getLsbD 2 ^^ v.getLsbD 3 ^^
    v.getLsbD 4 ^^ v.getLsbD 5 ^^ v.getLsbD 6 ^^ v.getLsbD 7) == false

/-- `SZP(v)` (R111): Z, S and P from a byte; CY and AC keep their values. -/
def Flags.szp (f : Flags) (v : Byte) : Flags :=
  { f with z := decide (v = 0), s := v.getLsbD 7, p := parityEven v }

/-- `F.CY <- b`. -/
def Flags.setCY (f : Flags) (b : Bool) : Flags := { f with cy := b }

/-- The 8-bit result and the new CY of each ALU operation, from A, the second operand and CY (R110, R145, R146). -/
def aluResult (op : AluOp) (a v : Byte) (cy : Bool) : Byte × Bool :=
  match op with
  | .add => add8 a v false
  | .adc => add8 a v cy
  | .sub => sub8 a v false
  | .sbb => sub8 a v cy
  | .ana => (a &&& v, false)
  | .xra => (a ^^^ v, false)
  | .ora => (a ||| v, false)
  | .cmp => sub8 a v false

/-- CMP writes no register; the other seven write A (R145). -/
def aluWritesA : AluOp → Bool
  | .add => true
  | .adc => true
  | .sub => true
  | .sbb => true
  | .ana => true
  | .xra => true
  | .ora => true
  | .cmp => false

/-- The common shape of the ALU instructions (R145): A and the second operand in, A and the four flags out. -/
def State.alu (s : State) (op : AluOp) (v : Byte) : State :=
  let r := aluResult op s.a v s.flags.cy
  { s with
    a := if aluWritesA op then r.1 else s.a
    flags := (s.flags.szp r.1).setCY r.2 }

/-- `cond(c)` (R173). -/
def Flags.cond (f : Flags) : Cond → Bool
  | .nz => !f.z
  | .z => f.z
  | .nc => !f.cy
  | .c => f.cy
  | .po => !f.p
  | .pe => f.p
  | .p => !f.s
  | .m => f.s

/-- `Fbyte` (R28): S, Z, 0, AC, 0, P, 1, CY from bit 7 down to bit 0. -/
def Flags.pack (f : Flags) : Byte :=
  BitVec.ofBool f.s ++ BitVec.ofBool f.z ++ 0#1 ++ BitVec.ofBool f.ac ++ 0#1 ++ BitVec.ofBool f.p ++ 1#1 ++
    BitVec.ofBool f.cy

/-- The flags from a popped `Fbyte` (R28, R163): bits 1, 3, 4 and 5 are ignored and AC is not written. -/
def Flags.unpack (f : Flags) (v : Byte) : Flags :=
  { f with cy := v.getLsbD 0, p := v.getLsbD 2, z := v.getLsbD 6, s := v.getLsbD 7 }

end Sys2Proof.Machine
end

