-- ==== Sys2Proof/Machine/Operands.lean ====
section
/-!
DEFINITION. The operand forms: the memory operand M (30_encoding.md R84), the pairs of R85 (SP and the PSW among them), the
pairs LDAX and STAX go through (R88), the addressing modes of 20_memory.md R59.
-/

namespace Sys2Proof.Machine

/-- M as a source: `MemRead(HL, 1)`. -/
def State.readM (s : State) : Byte := s.mem.read s.hl

/-- M as a destination: `MemWrite(HL, 1, v)`. -/
def State.writeM (s : State) (v : Byte) : State := s.storeByte s.hl v

/-- `RP[p]` (R85). -/
def State.rp (s : State) : Rp → Word
  | .bc => s.bc
  | .de => s.de
  | .hl => s.hl
  | .sp => s.sp

/-- `RP[p] <- v` (R85). -/
def State.setRp (s : State) (p : Rp) (v : Word) : State :=
  match p with
  | .bc => s.setBC v
  | .de => s.setDE v
  | .hl => s.setHL v
  | .sp => { s with sp := v }

/-- `RPS[p]` (R85); the PSW is `A : Fbyte` (10_state.md R28). -/
def State.rps (s : State) : Rps → Word
  | .bc => s.bc
  | .de => s.de
  | .hl => s.hl
  | .psw => word s.a s.flags.pack

/-- `RPS[p] <- v` (R85); writing the PSW writes A and the flags (R163). -/
def State.setRps (s : State) (p : Rps) (v : Word) : State :=
  match p with
  | .bc => s.setBC v
  | .de => s.setDE v
  | .hl => s.setHL v
  | .psw => { s with a := hiByte v, flags := s.flags.unpack (loByte v) }

/-- The address LDAX and STAX go through: BC or DE (R88, field X). -/
def State.ind (s : State) : Ind → Word
  | .bc => s.bc
  | .de => s.de

end Sys2Proof.Machine
end

