-- ==== Sys2Proof/Machine/Alu.lean ====
section
/-!
DEFINITION. The shared shape of the ALU instructions (40_arith_logic.md R145): the second operand is a register, M or an
immediate.
-/

namespace Sys2Proof.Machine

/-- The register form (R145), 1 byte. -/
def aluRegister (op : AluOp) (src : Reg8) (s : State) : Result := .next ((s.alu op (s.reg src)).advance 1)

/-- The M form (R145), 1 byte. -/
def aluM (op : AluOp) (s : State) : Result := .next ((s.alu op s.readM).advance 1)

/-- The immediate form (R145), 2 bytes. -/
def aluImmediate (op : AluOp) (imm : Byte) (s : State) : Result := .next ((s.alu op imm).advance 2)

end Sys2Proof.Machine
end

