-- ==== Sys2Proof/Machine/AddSub.lean ====
section
/-!
DEFINITION. The add and subtract families (40_arith_logic.md R112-R123).
-/

namespace Sys2Proof.Machine


/-- ADD B, opcode 0x80 (R112). -/
def execAddB (s : State) : Result := aluRegister .add .b s

/-- ADD C, opcode 0x81 (R112). -/
def execAddC (s : State) : Result := aluRegister .add .c s

/-- ADD D, opcode 0x82 (R112). -/
def execAddD (s : State) : Result := aluRegister .add .d s

/-- ADD E, opcode 0x83 (R112). -/
def execAddE (s : State) : Result := aluRegister .add .e s

/-- ADD H, opcode 0x84 (R112). -/
def execAddH (s : State) : Result := aluRegister .add .h s

/-- ADD L, opcode 0x85 (R112). -/
def execAddL (s : State) : Result := aluRegister .add .l s

/-- ADD M, opcode 0x86 (R113). -/
def execAddM (s : State) : Result := aluM .add s

/-- ADD A, opcode 0x87 (R112). -/
def execAddA (s : State) : Result := aluRegister .add .a s

/-- ADC B, opcode 0x88 (R115). -/
def execAdcB (s : State) : Result := aluRegister .adc .b s

/-- ADC C, opcode 0x89 (R115). -/
def execAdcC (s : State) : Result := aluRegister .adc .c s

/-- ADC D, opcode 0x8A (R115). -/
def execAdcD (s : State) : Result := aluRegister .adc .d s

/-- ADC E, opcode 0x8B (R115). -/
def execAdcE (s : State) : Result := aluRegister .adc .e s

/-- ADC H, opcode 0x8C (R115). -/
def execAdcH (s : State) : Result := aluRegister .adc .h s

/-- ADC L, opcode 0x8D (R115). -/
def execAdcL (s : State) : Result := aluRegister .adc .l s

/-- ADC M, opcode 0x8E (R116). -/
def execAdcM (s : State) : Result := aluM .adc s

/-- ADC A, opcode 0x8F (R115). -/
def execAdcA (s : State) : Result := aluRegister .adc .a s

/-- SUB B, opcode 0x90 (R118). -/
def execSubB (s : State) : Result := aluRegister .sub .b s

/-- SUB C, opcode 0x91 (R118). -/
def execSubC (s : State) : Result := aluRegister .sub .c s

/-- SUB D, opcode 0x92 (R118). -/
def execSubD (s : State) : Result := aluRegister .sub .d s

/-- SUB E, opcode 0x93 (R118). -/
def execSubE (s : State) : Result := aluRegister .sub .e s

/-- SUB H, opcode 0x94 (R118). -/
def execSubH (s : State) : Result := aluRegister .sub .h s

/-- SUB L, opcode 0x95 (R118). -/
def execSubL (s : State) : Result := aluRegister .sub .l s

/-- SUB M, opcode 0x96 (R119). -/
def execSubM (s : State) : Result := aluM .sub s

/-- SUB A, opcode 0x97 (R118). -/
def execSubA (s : State) : Result := aluRegister .sub .a s

/-- SBB B, opcode 0x98 (R121). -/
def execSbbB (s : State) : Result := aluRegister .sbb .b s

/-- SBB C, opcode 0x99 (R121). -/
def execSbbC (s : State) : Result := aluRegister .sbb .c s

/-- SBB D, opcode 0x9A (R121). -/
def execSbbD (s : State) : Result := aluRegister .sbb .d s

/-- SBB E, opcode 0x9B (R121). -/
def execSbbE (s : State) : Result := aluRegister .sbb .e s

/-- SBB H, opcode 0x9C (R121). -/
def execSbbH (s : State) : Result := aluRegister .sbb .h s

/-- SBB L, opcode 0x9D (R121). -/
def execSbbL (s : State) : Result := aluRegister .sbb .l s

/-- SBB M, opcode 0x9E (R122). -/
def execSbbM (s : State) : Result := aluM .sbb s

/-- SBB A, opcode 0x9F (R121). -/
def execSbbA (s : State) : Result := aluRegister .sbb .a s

/-- ADI data8, opcode 0xC6 (R114). -/
def execAdi (imm : Byte) (s : State) : Result := aluImmediate .add imm s

/-- ACI data8, opcode 0xCE (R117). -/
def execAci (imm : Byte) (s : State) : Result := aluImmediate .adc imm s

/-- SUI data8, opcode 0xD6 (R120). -/
def execSui (imm : Byte) (s : State) : Result := aluImmediate .sub imm s

/-- SBI data8, opcode 0xDE (R123). -/
def execSbi (imm : Byte) (s : State) : Result := aluImmediate .sbb imm s

end Sys2Proof.Machine
end

