-- ==== Sys2Proof/Machine/Control.lean ====
section
/-!
DEFINITION. Control transfers (41_stack_control.md R166-R176). None writes a flag; the conditions read the flags at the start of
the step (R173).
-/

namespace Sys2Proof.Machine

/-- JMP addr (R166). -/
def jumpTo (addr : Word) (s : State) : Result := .next (s.jump addr)

/-- Jcc addr (R167). -/
def jumpIf (cc : Cond) (addr : Word) (s : State) : Result :=
  if s.flags.cond cc then jumpTo addr s else .next (s.advance 3)

/-- CALL addr (R168): `Push16(npc); PC <- imm16` with `npc = pc + 3`. -/
def callTo (addr : Word) (s : State) : Result := .next ((s.push16 (s.pc + 3)).jump addr)

/-- Ccc addr (R169). -/
def callIf (cc : Cond) (addr : Word) (s : State) : Result :=
  if s.flags.cond cc then callTo addr s else .next (s.advance 3)

/-- RET (R170): `PC <- Pop16()`. -/
def returnAlways (s : State) : Result := .next (s.drop16.jump s.top16)

/-- Rcc (R171): a false one leaves SP and goes on at `pc + 1` (90_conflicts.md C3). -/
def returnIf (cc : Cond) (s : State) : Result :=
  if s.flags.cond cc then returnAlways s else .next (s.advance 1)

/-- RST n (R172): `Push16(npc); PC <- zext_16(n) * 8` with `npc = pc + 1`. -/
def restart (n : BitVec 3) (s : State) : Result := .next ((s.push16 (s.pc + 1)).jump (n.setWidth 16 * 8))

/-- PCHL (R174). -/
def jumpToHL (s : State) : Result := .next (s.jump s.hl)

/-- RNZ, opcode 0xC0 (R171). -/
def execRnz (s : State) : Result := returnIf .nz s

/-- JNZ addr, opcode 0xC2 (R167). -/
def execJnz (addr : Word) (s : State) : Result := jumpIf .nz addr s

/-- JMP addr, opcode 0xC3 (R166). -/
def execJmp (addr : Word) (s : State) : Result := jumpTo addr s

/-- CNZ addr, opcode 0xC4 (R169). -/
def execCnz (addr : Word) (s : State) : Result := callIf .nz addr s

/-- RST 0, opcode 0xC7 (R172). -/
def execRst0 (s : State) : Result := restart 0 s

/-- RZ, opcode 0xC8 (R171). -/
def execRz (s : State) : Result := returnIf .z s

/-- RET, opcode 0xC9 (R170). -/
def execRet (s : State) : Result := returnAlways s

/-- JZ addr, opcode 0xCA (R167). -/
def execJz (addr : Word) (s : State) : Result := jumpIf .z addr s

/-- CZ addr, opcode 0xCC (R169). -/
def execCz (addr : Word) (s : State) : Result := callIf .z addr s

/-- CALL addr, opcode 0xCD (R168). -/
def execCall (addr : Word) (s : State) : Result := callTo addr s

/-- RST 1, opcode 0xCF (R172). -/
def execRst1 (s : State) : Result := restart 1 s

/-- RNC, opcode 0xD0 (R171). -/
def execRnc (s : State) : Result := returnIf .nc s

/-- JNC addr, opcode 0xD2 (R167). -/
def execJnc (addr : Word) (s : State) : Result := jumpIf .nc addr s

/-- CNC addr, opcode 0xD4 (R169). -/
def execCnc (addr : Word) (s : State) : Result := callIf .nc addr s

/-- RST 2, opcode 0xD7 (R172). -/
def execRst2 (s : State) : Result := restart 2 s

/-- RC, opcode 0xD8 (R171). -/
def execRc (s : State) : Result := returnIf .c s

/-- JC addr, opcode 0xDA (R167). -/
def execJc (addr : Word) (s : State) : Result := jumpIf .c addr s

/-- CC addr, opcode 0xDC (R169). -/
def execCc (addr : Word) (s : State) : Result := callIf .c addr s

/-- RST 3, opcode 0xDF (R172). -/
def execRst3 (s : State) : Result := restart 3 s

/-- RPO, opcode 0xE0 (R171). -/
def execRpo (s : State) : Result := returnIf .po s

/-- JPO addr, opcode 0xE2 (R167). -/
def execJpo (addr : Word) (s : State) : Result := jumpIf .po addr s

/-- CPO addr, opcode 0xE4 (R169). -/
def execCpo (addr : Word) (s : State) : Result := callIf .po addr s

/-- RST 4, opcode 0xE7 (R172). -/
def execRst4 (s : State) : Result := restart 4 s

/-- RPE, opcode 0xE8 (R171). -/
def execRpe (s : State) : Result := returnIf .pe s

/-- PCHL, opcode 0xE9 (R174). -/
def execPchl (s : State) : Result := jumpToHL s

/-- JPE addr, opcode 0xEA (R167). -/
def execJpe (addr : Word) (s : State) : Result := jumpIf .pe addr s

/-- CPE addr, opcode 0xEC (R169). -/
def execCpe (addr : Word) (s : State) : Result := callIf .pe addr s

/-- RST 5, opcode 0xEF (R172). -/
def execRst5 (s : State) : Result := restart 5 s

/-- RP, opcode 0xF0 (R171). -/
def execRp (s : State) : Result := returnIf .p s

/-- JP addr, opcode 0xF2 (R167). -/
def execJp (addr : Word) (s : State) : Result := jumpIf .p addr s

/-- CP addr, opcode 0xF4 (R169). -/
def execCp (addr : Word) (s : State) : Result := callIf .p addr s

/-- RST 6, opcode 0xF7 (R172). -/
def execRst6 (s : State) : Result := restart 6 s

/-- RM, opcode 0xF8 (R171). -/
def execRm (s : State) : Result := returnIf .m s

/-- JM addr, opcode 0xFA (R167). -/
def execJm (addr : Word) (s : State) : Result := jumpIf .m addr s

/-- CM addr, opcode 0xFC (R169). -/
def execCm (addr : Word) (s : State) : Result := callIf .m addr s

/-- RST 7, opcode 0xFF (R172). -/
def execRst7 (s : State) : Result := restart 7 s

end Sys2Proof.Machine
end

