-- ==== Sys2Proof/Machine/IncDec.lean ====
section
/-!
DEFINITION. Increment and decrement, double add and DAA (40_arith_logic.md R136-R143).
-/

namespace Sys2Proof.Machine

/-- INR r (R136): CY keeps its value. -/
def incrementRegister (r : Reg8) (s : State) : Result :=
  let v := s.reg r + 1
  .next ({ s.setReg r v with flags := s.flags.szp v }.advance 1)

/-- INR M (R137): CY keeps its value. -/
def incrementM (s : State) : Result :=
  let v := s.readM + 1
  .next ({ s.writeM v with flags := s.flags.szp v }.advance 1)

/-- DCR r (R138): CY keeps its value. -/
def decrementRegister (r : Reg8) (s : State) : Result :=
  let v := s.reg r - 1
  .next ({ s.setReg r v with flags := s.flags.szp v }.advance 1)

/-- DCR M (R139): CY keeps its value. -/
def decrementM (s : State) : Result :=
  let v := s.readM - 1
  .next ({ s.writeM v with flags := s.flags.szp v }.advance 1)

/-- INX rp (R140): no flag is touched. -/
def incrementPair (p : Rp) (s : State) : Result := .next ((s.setRp p (s.rp p + 1)).advance 1)

/-- DCX rp (R141): no flag is touched. -/
def decrementPair (p : Rp) (s : State) : Result := .next ((s.setRp p (s.rp p - 1)).advance 1)

/-- DAD rp (R142): the exact 17-bit sum; only CY is written. -/
def doubleAdd (p : Rp) (s : State) : Result :=
  let t := s.hl.toNat + (s.rp p).toNat
  .next ({ s.setHL (BitVec.ofNat 16 t) with flags := s.flags.setCY (decide (t > 0xFFFF)) }.advance 1)

/-- INX B, opcode 0x03 (R140). -/
def execInxB (s : State) : Result := incrementPair .bc s

/-- INR B, opcode 0x04 (R136). -/
def execInrB (s : State) : Result := incrementRegister .b s

/-- DCR B, opcode 0x05 (R138). -/
def execDcrB (s : State) : Result := decrementRegister .b s

/-- DAD B, opcode 0x09 (R142). -/
def execDadB (s : State) : Result := doubleAdd .bc s

/-- DCX B, opcode 0x0B (R141). -/
def execDcxB (s : State) : Result := decrementPair .bc s

/-- INR C, opcode 0x0C (R136). -/
def execInrC (s : State) : Result := incrementRegister .c s

/-- DCR C, opcode 0x0D (R138). -/
def execDcrC (s : State) : Result := decrementRegister .c s

/-- INX D, opcode 0x13 (R140). -/
def execInxD (s : State) : Result := incrementPair .de s

/-- INR D, opcode 0x14 (R136). -/
def execInrD (s : State) : Result := incrementRegister .d s

/-- DCR D, opcode 0x15 (R138). -/
def execDcrD (s : State) : Result := decrementRegister .d s

/-- DAD D, opcode 0x19 (R142). -/
def execDadD (s : State) : Result := doubleAdd .de s

/-- DCX D, opcode 0x1B (R141). -/
def execDcxD (s : State) : Result := decrementPair .de s

/-- INR E, opcode 0x1C (R136). -/
def execInrE (s : State) : Result := incrementRegister .e s

/-- DCR E, opcode 0x1D (R138). -/
def execDcrE (s : State) : Result := decrementRegister .e s

/-- INX H, opcode 0x23 (R140). -/
def execInxH (s : State) : Result := incrementPair .hl s

/-- INR H, opcode 0x24 (R136). -/
def execInrH (s : State) : Result := incrementRegister .h s

/-- DCR H, opcode 0x25 (R138). -/
def execDcrH (s : State) : Result := decrementRegister .h s

/-- DAA, opcode 0x27 (R143). -/
def execDaa (s : State) : Result := unimplemented 0x27 s

/-- DAD H, opcode 0x29 (R142). -/
def execDadH (s : State) : Result := doubleAdd .hl s

/-- DCX H, opcode 0x2B (R141). -/
def execDcxH (s : State) : Result := decrementPair .hl s

/-- INR L, opcode 0x2C (R136). -/
def execInrL (s : State) : Result := incrementRegister .l s

/-- DCR L, opcode 0x2D (R138). -/
def execDcrL (s : State) : Result := decrementRegister .l s

/-- INX SP, opcode 0x33 (R140). -/
def execInxSp (s : State) : Result := incrementPair .sp s

/-- INR M, opcode 0x34 (R137). -/
def execInrM (s : State) : Result := incrementM s

/-- DCR M, opcode 0x35 (R139). -/
def execDcrM (s : State) : Result := decrementM s

/-- DAD SP, opcode 0x39 (R142). -/
def execDadSp (s : State) : Result := doubleAdd .sp s

/-- DCX SP, opcode 0x3B (R141). -/
def execDcxSp (s : State) : Result := decrementPair .sp s

/-- INR A, opcode 0x3C (R136). -/
def execInrA (s : State) : Result := incrementRegister .a s

/-- DCR A, opcode 0x3D (R138). -/
def execDcrA (s : State) : Result := decrementRegister .a s

end Sys2Proof.Machine
end

