-- ==== Sys2Proof/Machine/LogicCompare.lean ====
section
/-!
DEFINITION. The logic family and compare (40_arith_logic.md R124-R135).
-/

namespace Sys2Proof.Machine


/-- ANA B, opcode 0xA0 (R124). -/
def execAnaB (s : State) : Result := aluRegister .ana .b s

/-- ANA C, opcode 0xA1 (R124). -/
def execAnaC (s : State) : Result := aluRegister .ana .c s

/-- ANA D, opcode 0xA2 (R124). -/
def execAnaD (s : State) : Result := aluRegister .ana .d s

/-- ANA E, opcode 0xA3 (R124). -/
def execAnaE (s : State) : Result := aluRegister .ana .e s

/-- ANA H, opcode 0xA4 (R124). -/
def execAnaH (s : State) : Result := aluRegister .ana .h s

/-- ANA L, opcode 0xA5 (R124). -/
def execAnaL (s : State) : Result := aluRegister .ana .l s

/-- ANA M, opcode 0xA6 (R125). -/
def execAnaM (s : State) : Result := aluM .ana s

/-- ANA A, opcode 0xA7 (R124). -/
def execAnaA (s : State) : Result := aluRegister .ana .a s

/-- XRA B, opcode 0xA8 (R127). -/
def execXraB (s : State) : Result := aluRegister .xra .b s

/-- XRA C, opcode 0xA9 (R127). -/
def execXraC (s : State) : Result := aluRegister .xra .c s

/-- XRA D, opcode 0xAA (R127). -/
def execXraD (s : State) : Result := aluRegister .xra .d s

/-- XRA E, opcode 0xAB (R127). -/
def execXraE (s : State) : Result := aluRegister .xra .e s

/-- XRA H, opcode 0xAC (R127). -/
def execXraH (s : State) : Result := aluRegister .xra .h s

/-- XRA L, opcode 0xAD (R127). -/
def execXraL (s : State) : Result := aluRegister .xra .l s

/-- XRA M, opcode 0xAE (R128). -/
def execXraM (s : State) : Result := aluM .xra s

/-- XRA A, opcode 0xAF (R127). -/
def execXraA (s : State) : Result := aluRegister .xra .a s

/-- ORA B, opcode 0xB0 (R130). -/
def execOraB (s : State) : Result := aluRegister .ora .b s

/-- ORA C, opcode 0xB1 (R130). -/
def execOraC (s : State) : Result := aluRegister .ora .c s

/-- ORA D, opcode 0xB2 (R130). -/
def execOraD (s : State) : Result := aluRegister .ora .d s

/-- ORA E, opcode 0xB3 (R130). -/
def execOraE (s : State) : Result := aluRegister .ora .e s

/-- ORA H, opcode 0xB4 (R130). -/
def execOraH (s : State) : Result := aluRegister .ora .h s

/-- ORA L, opcode 0xB5 (R130). -/
def execOraL (s : State) : Result := aluRegister .ora .l s

/-- ORA M, opcode 0xB6 (R131). -/
def execOraM (s : State) : Result := aluM .ora s

/-- ORA A, opcode 0xB7 (R130). -/
def execOraA (s : State) : Result := aluRegister .ora .a s

/-- CMP B, opcode 0xB8 (R133). -/
def execCmpB (s : State) : Result := aluRegister .cmp .b s

/-- CMP C, opcode 0xB9 (R133). -/
def execCmpC (s : State) : Result := aluRegister .cmp .c s

/-- CMP D, opcode 0xBA (R133). -/
def execCmpD (s : State) : Result := aluRegister .cmp .d s

/-- CMP E, opcode 0xBB (R133). -/
def execCmpE (s : State) : Result := aluRegister .cmp .e s

/-- CMP H, opcode 0xBC (R133). -/
def execCmpH (s : State) : Result := aluRegister .cmp .h s

/-- CMP L, opcode 0xBD (R133). -/
def execCmpL (s : State) : Result := aluRegister .cmp .l s

/-- CMP M, opcode 0xBE (R134). -/
def execCmpM (s : State) : Result := aluM .cmp s

/-- CMP A, opcode 0xBF (R133). -/
def execCmpA (s : State) : Result := aluRegister .cmp .a s

/-- ANI data8, opcode 0xE6 (R126). -/
def execAni (imm : Byte) (s : State) : Result := aluImmediate .ana imm s

/-- XRI data8, opcode 0xEE (R129). -/
def execXri (imm : Byte) (s : State) : Result := aluImmediate .xra imm s

/-- ORI data8, opcode 0xF6 (R132). -/
def execOri (imm : Byte) (s : State) : Result := aluImmediate .ora imm s

/-- CPI data8, opcode 0xFE (R135). -/
def execCpi (imm : Byte) (s : State) : Result := aluImmediate .cmp imm s

end Sys2Proof.Machine
end

