-- ==== Sys2Proof/Machine/MachineControl.lean ====
section
/-!
DEFINITION. I/O, interrupt enable, NOP, HLT and the undocumented opcodes (44_machine_control.md R220-R230).
-/

namespace Sys2Proof.Machine

/-- IN port (R221): `A <- IoIn(port)`. -/
def inputFrom (port : Byte) (s : State) : Result := .next (((s.drawn port).setReg .a (s.ioIn port)).advance 2)

/-- OUT port (R222): `IoOut(port, A)`. -/
def outputTo (port : Byte) (s : State) : Result := .next ((s.ioOut port s.a).advance 2)

/-- EI (R223). -/
def enableInterrupts (s : State) : Result := .next ({ s with inte := true }.advance 1)

/-- DI (R224). -/
def disableInterrupts (s : State) : Result := .next ({ s with inte := false }.advance 1)

/-- NOP (R225). -/
def noOperation (s : State) : Result := .next (s.advance 1)

/-- HLT (R226): `PC <- npc; STATUS <- Halted`. -/
def halt (s : State) : Result := .next ({ s with status := .halted }.advance 1)

/-- NOP, opcode 0x00 (R225). -/
def execNop (s : State) : Result := noOperation s

/-- undocumented (08H), opcode 0x08 (R230). -/
def execUndocumented08 (s : State) : Result := unimplemented 0x08 s

/-- undocumented (10H), opcode 0x10 (R230). -/
def execUndocumented10 (s : State) : Result := unimplemented 0x10 s

/-- undocumented (18H), opcode 0x18 (R230). -/
def execUndocumented18 (s : State) : Result := unimplemented 0x18 s

/-- undocumented (20H), opcode 0x20 (R230). -/
def execUndocumented20 (s : State) : Result := unimplemented 0x20 s

/-- undocumented (28H), opcode 0x28 (R230). -/
def execUndocumented28 (s : State) : Result := unimplemented 0x28 s

/-- undocumented (30H), opcode 0x30 (R230). -/
def execUndocumented30 (s : State) : Result := unimplemented 0x30 s

/-- undocumented (38H), opcode 0x38 (R230). -/
def execUndocumented38 (s : State) : Result := unimplemented 0x38 s

/-- HLT, opcode 0x76 (R226). -/
def execHlt (s : State) : Result := halt s

/-- undocumented (CBH), opcode 0xCB (R230). -/
def execUndocumentedCB (s : State) : Result := unimplemented 0xCB s

/-- OUT port, opcode 0xD3 (R222). -/
def execOutPort (port : Byte) (s : State) : Result := outputTo port s

/-- undocumented (D9H), opcode 0xD9 (R230). -/
def execUndocumentedD9 (s : State) : Result := unimplemented 0xD9 s

/-- IN port, opcode 0xDB (R221). -/
def execInPort (port : Byte) (s : State) : Result := inputFrom port s

/-- undocumented (DDH), opcode 0xDD (R230). -/
def execUndocumentedDD (s : State) : Result := unimplemented 0xDD s

/-- undocumented (EDH), opcode 0xED (R230). -/
def execUndocumentedED (s : State) : Result := unimplemented 0xED s

/-- DI, opcode 0xF3 (R224). -/
def execDi (s : State) : Result := disableInterrupts s

/-- EI, opcode 0xFB (R223). -/
def execEi (s : State) : Result := enableInterrupts s

/-- undocumented (FDH), opcode 0xFD (R230). -/
def execUndocumentedFD (s : State) : Result := unimplemented 0xFD s

end Sys2Proof.Machine
end

