-- ==== Sys2Proof/Machine/Move.lean ====
section
/-!
DEFINITION. Data movement (43_data_movement.md R200-R213): MOV, MVI, LXI, LDA, STA, LHLD, SHLD, LDAX, STAX, XCHG. None writes
a flag (R206).
-/

namespace Sys2Proof.Machine

/-- MOV r1,r2 (R200): `R[DDD] <- R[SSS]`. -/
def moveRegister (dst src : Reg8) (s : State) : Result := .next ((s.setReg dst (s.reg src)).advance 1)

/-- MOV r,M (R201): `R[DDD] <- MemRead(HL, 1)`. -/
def moveFromM (dst : Reg8) (s : State) : Result := .next ((s.setReg dst s.readM).advance 1)

/-- MOV M,r (R202): `MemWrite(HL, 1, R[SSS])`. -/
def moveToM (src : Reg8) (s : State) : Result := .next ((s.writeM (s.reg src)).advance 1)

/-- MVI r,data8 (R203): `R[DDD] <- imm8`. -/
def moveImmediate (dst : Reg8) (imm : Byte) (s : State) : Result := .next ((s.setReg dst imm).advance 2)

/-- MVI M,data8 (R204): `MemWrite(HL, 1, imm8)`. -/
def moveImmediateToM (imm : Byte) (s : State) : Result := .next ((s.writeM imm).advance 2)

/-- LXI rp,data16 (R205): `RP[p] <- imm16`. -/
def loadPairImmediate (p : Rp) (imm : Word) (s : State) : Result := .next ((s.setRp p imm).advance 3)

/-- LDA addr (R207): `A <- MemRead(imm16, 1)`. -/
def loadDirect (addr : Word) (s : State) : Result := .next ((s.setReg .a (s.mem.read addr)).advance 3)

/-- STA addr (R208): `MemWrite(imm16, 1, A)`. -/
def storeDirect (addr : Word) (s : State) : Result := .next ((s.storeByte addr s.a).advance 3)

/-- LHLD addr (R209): `HL <- MemRead(imm16, 2)`. -/
def loadHLDirect (addr : Word) (s : State) : Result := .next ((s.setHL (s.mem.readWord addr)).advance 3)

/-- SHLD addr (R210): `MemWrite(imm16, 2, HL)`. -/
def storeHLDirect (addr : Word) (s : State) : Result := .next ((s.storeWord addr s.hl).advance 3)

/-- LDAX rp (R211): `A <- MemRead(X = 0 ? BC : DE, 1)`. -/
def loadIndirect (p : Ind) (s : State) : Result := .next ((s.setReg .a (s.mem.read (s.ind p))).advance 1)

/-- STAX rp (R212): `MemWrite(X = 0 ? BC : DE, 1, A)`. -/
def storeIndirect (p : Ind) (s : State) : Result := .next ((s.storeByte (s.ind p) s.a).advance 1)

/-- XCHG (R213): `t <- HL; HL <- DE; DE <- t`. -/
def exchangeDEHL (s : State) : Result := .next (((s.setHL s.de).setDE s.hl).advance 1)

/-- LXI B,data16, opcode 0x01 (R205). -/
def execLxiB (imm : Word) (s : State) : Result := loadPairImmediate .bc imm s

/-- STAX B, opcode 0x02 (R212). -/
def execStaxB (s : State) : Result := storeIndirect .bc s

/-- MVI B,data8, opcode 0x06 (R203). -/
def execMviB (imm : Byte) (s : State) : Result := moveImmediate .b imm s

/-- LDAX B, opcode 0x0A (R211). -/
def execLdaxB (s : State) : Result := loadIndirect .bc s

/-- MVI C,data8, opcode 0x0E (R203). -/
def execMviC (imm : Byte) (s : State) : Result := moveImmediate .c imm s

/-- LXI D,data16, opcode 0x11 (R205). -/
def execLxiD (imm : Word) (s : State) : Result := loadPairImmediate .de imm s

/-- STAX D, opcode 0x12 (R212). -/
def execStaxD (s : State) : Result := storeIndirect .de s

/-- MVI D,data8, opcode 0x16 (R203). -/
def execMviD (imm : Byte) (s : State) : Result := moveImmediate .d imm s

/-- LDAX D, opcode 0x1A (R211). -/
def execLdaxD (s : State) : Result := loadIndirect .de s

/-- MVI E,data8, opcode 0x1E (R203). -/
def execMviE (imm : Byte) (s : State) : Result := moveImmediate .e imm s

/-- LXI H,data16, opcode 0x21 (R205). -/
def execLxiH (imm : Word) (s : State) : Result := loadPairImmediate .hl imm s

/-- SHLD addr, opcode 0x22 (R210). -/
def execShld (addr : Word) (s : State) : Result := storeHLDirect addr s

/-- MVI H,data8, opcode 0x26 (R203). -/
def execMviH (imm : Byte) (s : State) : Result := moveImmediate .h imm s

/-- LHLD addr, opcode 0x2A (R209). -/
def execLhld (addr : Word) (s : State) : Result := loadHLDirect addr s

/-- MVI L,data8, opcode 0x2E (R203). -/
def execMviL (imm : Byte) (s : State) : Result := moveImmediate .l imm s

/-- LXI SP,data16, opcode 0x31 (R205). -/
def execLxiSp (imm : Word) (s : State) : Result := loadPairImmediate .sp imm s

/-- STA addr, opcode 0x32 (R208). -/
def execSta (addr : Word) (s : State) : Result := storeDirect addr s

/-- MVI M,data8, opcode 0x36 (R204). -/
def execMviM (imm : Byte) (s : State) : Result := moveImmediateToM imm s

/-- LDA addr, opcode 0x3A (R207). -/
def execLda (addr : Word) (s : State) : Result := loadDirect addr s

/-- MVI A,data8, opcode 0x3E (R203). -/
def execMviA (imm : Byte) (s : State) : Result := moveImmediate .a imm s

/-- MOV B,B, opcode 0x40 (R200). -/
def execMovBB (s : State) : Result := moveRegister .b .b s

/-- MOV B,C, opcode 0x41 (R200). -/
def execMovBC (s : State) : Result := moveRegister .b .c s

/-- MOV B,D, opcode 0x42 (R200). -/
def execMovBD (s : State) : Result := moveRegister .b .d s

/-- MOV B,E, opcode 0x43 (R200). -/
def execMovBE (s : State) : Result := moveRegister .b .e s

/-- MOV B,H, opcode 0x44 (R200). -/
def execMovBH (s : State) : Result := moveRegister .b .h s

/-- MOV B,L, opcode 0x45 (R200). -/
def execMovBL (s : State) : Result := moveRegister .b .l s

/-- MOV B,M, opcode 0x46 (R201). -/
def execMovBM (s : State) : Result := moveFromM .b s

/-- MOV B,A, opcode 0x47 (R200). -/
def execMovBA (s : State) : Result := moveRegister .b .a s

/-- MOV C,B, opcode 0x48 (R200). -/
def execMovCB (s : State) : Result := moveRegister .c .b s

/-- MOV C,C, opcode 0x49 (R200). -/
def execMovCC (s : State) : Result := moveRegister .c .c s

/-- MOV C,D, opcode 0x4A (R200). -/
def execMovCD (s : State) : Result := moveRegister .c .d s

/-- MOV C,E, opcode 0x4B (R200). -/
def execMovCE (s : State) : Result := moveRegister .c .e s

/-- MOV C,H, opcode 0x4C (R200). -/
def execMovCH (s : State) : Result := moveRegister .c .h s

/-- MOV C,L, opcode 0x4D (R200). -/
def execMovCL (s : State) : Result := moveRegister .c .l s

/-- MOV C,M, opcode 0x4E (R201). -/
def execMovCM (s : State) : Result := moveFromM .c s

/-- MOV C,A, opcode 0x4F (R200). -/
def execMovCA (s : State) : Result := moveRegister .c .a s

/-- MOV D,B, opcode 0x50 (R200). -/
def execMovDB (s : State) : Result := moveRegister .d .b s

/-- MOV D,C, opcode 0x51 (R200). -/
def execMovDC (s : State) : Result := moveRegister .d .c s

/-- MOV D,D, opcode 0x52 (R200). -/
def execMovDD (s : State) : Result := moveRegister .d .d s

/-- MOV D,E, opcode 0x53 (R200). -/
def execMovDE (s : State) : Result := moveRegister .d .e s

/-- MOV D,H, opcode 0x54 (R200). -/
def execMovDH (s : State) : Result := moveRegister .d .h s

/-- MOV D,L, opcode 0x55 (R200). -/
def execMovDL (s : State) : Result := moveRegister .d .l s

/-- MOV D,M, opcode 0x56 (R201). -/
def execMovDM (s : State) : Result := moveFromM .d s

/-- MOV D,A, opcode 0x57 (R200). -/
def execMovDA (s : State) : Result := moveRegister .d .a s

/-- MOV E,B, opcode 0x58 (R200). -/
def execMovEB (s : State) : Result := moveRegister .e .b s

/-- MOV E,C, opcode 0x59 (R200). -/
def execMovEC (s : State) : Result := moveRegister .e .c s

/-- MOV E,D, opcode 0x5A (R200). -/
def execMovED (s : State) : Result := moveRegister .e .d s

/-- MOV E,E, opcode 0x5B (R200). -/
def execMovEE (s : State) : Result := moveRegister .e .e s

/-- MOV E,H, opcode 0x5C (R200). -/
def execMovEH (s : State) : Result := moveRegister .e .h s

/-- MOV E,L, opcode 0x5D (R200). -/
def execMovEL (s : State) : Result := moveRegister .e .l s

/-- MOV E,M, opcode 0x5E (R201). -/
def execMovEM (s : State) : Result := moveFromM .e s

/-- MOV E,A, opcode 0x5F (R200). -/
def execMovEA (s : State) : Result := moveRegister .e .a s

/-- MOV H,B, opcode 0x60 (R200). -/
def execMovHB (s : State) : Result := moveRegister .h .b s

/-- MOV H,C, opcode 0x61 (R200). -/
def execMovHC (s : State) : Result := moveRegister .h .c s

/-- MOV H,D, opcode 0x62 (R200). -/
def execMovHD (s : State) : Result := moveRegister .h .d s

/-- MOV H,E, opcode 0x63 (R200). -/
def execMovHE (s : State) : Result := moveRegister .h .e s

/-- MOV H,H, opcode 0x64 (R200). -/
def execMovHH (s : State) : Result := moveRegister .h .h s

/-- MOV H,L, opcode 0x65 (R200). -/
def execMovHL (s : State) : Result := moveRegister .h .l s

/-- MOV H,M, opcode 0x66 (R201). -/
def execMovHM (s : State) : Result := moveFromM .h s

/-- MOV H,A, opcode 0x67 (R200). -/
def execMovHA (s : State) : Result := moveRegister .h .a s

/-- MOV L,B, opcode 0x68 (R200). -/
def execMovLB (s : State) : Result := moveRegister .l .b s

/-- MOV L,C, opcode 0x69 (R200). -/
def execMovLC (s : State) : Result := moveRegister .l .c s

/-- MOV L,D, opcode 0x6A (R200). -/
def execMovLD (s : State) : Result := moveRegister .l .d s

/-- MOV L,E, opcode 0x6B (R200). -/
def execMovLE (s : State) : Result := moveRegister .l .e s

/-- MOV L,H, opcode 0x6C (R200). -/
def execMovLH (s : State) : Result := moveRegister .l .h s

/-- MOV L,L, opcode 0x6D (R200). -/
def execMovLL (s : State) : Result := moveRegister .l .l s

/-- MOV L,M, opcode 0x6E (R201). -/
def execMovLM (s : State) : Result := moveFromM .l s

/-- MOV L,A, opcode 0x6F (R200). -/
def execMovLA (s : State) : Result := moveRegister .l .a s

/-- MOV M,B, opcode 0x70 (R202). -/
def execMovMB (s : State) : Result := moveToM .b s

/-- MOV M,C, opcode 0x71 (R202). -/
def execMovMC (s : State) : Result := moveToM .c s

/-- MOV M,D, opcode 0x72 (R202). -/
def execMovMD (s : State) : Result := moveToM .d s

/-- MOV M,E, opcode 0x73 (R202). -/
def execMovME (s : State) : Result := moveToM .e s

/-- MOV M,H, opcode 0x74 (R202). -/
def execMovMH (s : State) : Result := moveToM .h s

/-- MOV M,L, opcode 0x75 (R202). -/
def execMovML (s : State) : Result := moveToM .l s

/-- MOV M,A, opcode 0x77 (R202). -/
def execMovMA (s : State) : Result := moveToM .a s

/-- MOV A,B, opcode 0x78 (R200). -/
def execMovAB (s : State) : Result := moveRegister .a .b s

/-- MOV A,C, opcode 0x79 (R200). -/
def execMovAC (s : State) : Result := moveRegister .a .c s

/-- MOV A,D, opcode 0x7A (R200). -/
def execMovAD (s : State) : Result := moveRegister .a .d s

/-- MOV A,E, opcode 0x7B (R200). -/
def execMovAE (s : State) : Result := moveRegister .a .e s

/-- MOV A,H, opcode 0x7C (R200). -/
def execMovAH (s : State) : Result := moveRegister .a .h s

/-- MOV A,L, opcode 0x7D (R200). -/
def execMovAL (s : State) : Result := moveRegister .a .l s

/-- MOV A,M, opcode 0x7E (R201). -/
def execMovAM (s : State) : Result := moveFromM .a s

/-- MOV A,A, opcode 0x7F (R200). -/
def execMovAA (s : State) : Result := moveRegister .a .a s

/-- XCHG, opcode 0xEB (R213). -/
def execXchg (s : State) : Result := exchangeDEHL s

end Sys2Proof.Machine
end

