-- ==== Sys2Proof/Machine/Rotate.lean ====
section
/-!
DEFINITION. Rotates and carry (42_rotate_carry.md R190-R196).
-/

namespace Sys2Proof.Machine

/-- RLC (R190). -/
def rotateLeft (s : State) : Result :=
  let c := s.a.getLsbD 7
  .next ({ s with a := s.a.extractLsb' 0 7 ++ BitVec.ofBool c, flags := s.flags.setCY c }.advance 1)

/-- RRC (R191). -/
def rotateRight (s : State) : Result :=
  let c := s.a.getLsbD 0
  .next ({ s with a := BitVec.ofBool c ++ s.a.extractLsb' 1 7, flags := s.flags.setCY c }.advance 1)

/-- RAL (R192): CY is the ninth bit. -/
def rotateLeftThroughCarry (s : State) : Result :=
  let c := s.a.getLsbD 7
  .next ({ s with a := s.a.extractLsb' 0 7 ++ BitVec.ofBool s.flags.cy, flags := s.flags.setCY c }.advance 1)

/-- RAR (R193): CY is the ninth bit. -/
def rotateRightThroughCarry (s : State) : Result :=
  let c := s.a.getLsbD 0
  .next ({ s with a := BitVec.ofBool s.flags.cy ++ s.a.extractLsb' 1 7, flags := s.flags.setCY c }.advance 1)

/-- STC (R194). -/
def setCarry (s : State) : Result := .next ({ s with flags := s.flags.setCY true }.advance 1)

/-- CMC (R195). -/
def complementCarry (s : State) : Result := .next ({ s with flags := s.flags.setCY (!s.flags.cy) }.advance 1)

/-- CMA (R196): no flag is written. -/
def complementA (s : State) : Result := .next ({ s with a := ~~~s.a }.advance 1)

/-- RLC, opcode 0x07 (R190). -/
def execRlc (s : State) : Result := rotateLeft s

/-- RRC, opcode 0x0F (R191). -/
def execRrc (s : State) : Result := rotateRight s

/-- RAL, opcode 0x17 (R192). -/
def execRal (s : State) : Result := rotateLeftThroughCarry s

/-- RAR, opcode 0x1F (R193). -/
def execRar (s : State) : Result := rotateRightThroughCarry s

/-- CMA, opcode 0x2F (R196). -/
def execCma (s : State) : Result := complementA s

/-- STC, opcode 0x37 (R194). -/
def execStc (s : State) : Result := setCarry s

/-- CMC, opcode 0x3F (R195). -/
def execCmc (s : State) : Result := complementCarry s

end Sys2Proof.Machine
end

