-- ==== Sys2Proof/Machine/Stack.lean ====
section
/-!
DEFINITION. Stack instructions (41_stack_control.md R160-R165).
-/

namespace Sys2Proof.Machine

/-- PUSH rp (R160) and PUSH PSW (R161): `Push16(RPS[p])`. -/
def pushPair (p : Rps) (s : State) : Result := .next ((s.push16 (s.rps p)).advance 1)

/-- POP rp (R162) and POP PSW (R163): `RPS[p] <- Pop16()`. -/
def popPair (p : Rps) (s : State) : Result := .next ((s.drop16.setRps p s.top16).advance 1)

/-- XTHL (R164): `t <- MemRead(SP, 2); MemWrite(SP, 2, HL); HL <- t`. -/
def exchangeStackHL (s : State) : Result :=
  .next (((s.storeWord s.sp s.hl).setHL (s.mem.readWord s.sp)).advance 1)

/-- SPHL (R165): `SP <- HL`. -/
def loadSPFromHL (s : State) : Result := .next ({ s with sp := s.hl }.advance 1)

/-- POP B, opcode 0xC1 (R162). -/
def execPopB (s : State) : Result := popPair .bc s

/-- PUSH B, opcode 0xC5 (R160). -/
def execPushB (s : State) : Result := pushPair .bc s

/-- POP D, opcode 0xD1 (R162). -/
def execPopD (s : State) : Result := popPair .de s

/-- PUSH D, opcode 0xD5 (R160). -/
def execPushD (s : State) : Result := pushPair .de s

/-- POP H, opcode 0xE1 (R162). -/
def execPopH (s : State) : Result := popPair .hl s

/-- XTHL, opcode 0xE3 (R164). -/
def execXthl (s : State) : Result := exchangeStackHL s

/-- PUSH H, opcode 0xE5 (R160). -/
def execPushH (s : State) : Result := pushPair .hl s

/-- POP PSW, opcode 0xF1 (R163). -/
def execPopPsw (s : State) : Result := popPair .psw s

/-- PUSH PSW, opcode 0xF5 (R161). -/
def execPushPsw (s : State) : Result := pushPair .psw s

/-- SPHL, opcode 0xF9 (R165). -/
def execSphl (s : State) : Result := loadSPFromHL s

end Sys2Proof.Machine
end

