-- ==== Sys2Proof/WellFormed.lean ====
section
/-!
DEFINITION. Well-formed machine code of one instruction (30_encoding.md R87, R88). The operands of `Instr` are bytes and
words by type, so an instruction as syntax has nothing left to check; what can be ill formed is a list of bytes, which must
be an opcode byte followed by exactly the operand bytes its opcode has.
-/

namespace Sys2Proof

/-- The opcodes of the three-byte instructions, as R87 lists them. -/
def threeByteOpcodes : List Byte :=
  [0x01, 0x11, 0x21, 0x31, 0x22, 0x2A, 0x32, 0x3A,
   0xC2, 0xCA, 0xD2, 0xDA, 0xE2, 0xEA, 0xF2, 0xFA, 0xC3,
   0xC4, 0xCC, 0xD4, 0xDC, 0xE4, 0xEC, 0xF4, 0xFC, 0xCD]

/-- The opcodes of the two-byte instructions, as R87 lists them. -/
def twoByteOpcodes : List Byte :=
  [0x06, 0x0E, 0x16, 0x1E, 0x26, 0x2E, 0x36, 0x3E,
   0xC6, 0xCE, 0xD6, 0xDE, 0xE6, 0xEE, 0xF6, 0xFE, 0xD3, 0xDB]

/-- Instruction length by opcode byte (R87). -/
def opcodeLength (op : Byte) : Nat :=
  if op ∈ threeByteOpcodes then 3 else if op ∈ twoByteOpcodes then 2 else 1

/-- There is an opcode byte. -/
def hasOpcode (bytes : List Byte) : Bool := !bytes.isEmpty

/-- No operand byte of the opcode is missing. -/
def hasItsOperands : List Byte → Bool
  | [] => true
  | op :: operands => decide (opcodeLength op ≤ 1 + operands.length)

/-- No byte stands after the last operand byte. -/
def hasNothingAfter : List Byte → Bool
  | [] => true
  | op :: operands => decide (1 + operands.length ≤ opcodeLength op)

/-- The bytes are one instruction, whole, and nothing else. -/
def wellFormedCode (bytes : List Byte) : Bool :=
  hasOpcode bytes && hasItsOperands bytes && hasNothingAfter bytes

end Sys2Proof
end

