-- ==== Sys2Proof/Decode.lean ====
section
/-!
DEFINITION. The decoder, written from the 16x16 opcode map of 30_encoding.md R94, and after it the encoder, written from
the formats and fields of R88 with the field codes of R84, R85, R89, R90. The two come from different tables of the spec,
so that a wrong entry of either breaks the round trip.
-/

namespace Sys2Proof

/-- One entry of the dispatcher's table (R95): the instruction an opcode byte selects and how many operand bytes it takes. -/
inductive Entry where
  /-- one byte (R88) -/
  | one (i : Instr)
  /-- two bytes: an immediate or a port -/
  | two (i : Byte → Instr)
  /-- three bytes: a 16-bit immediate or address -/
  | three (i : Word → Instr)

/-- The length of an entry's instruction in bytes (R87, R95). -/
def Entry.length : Entry → Nat
  | .one _ => 1
  | .two _ => 2
  | .three _ => 3

/-- `b3 : b2`, the 16-bit operand of a three-byte instruction, low byte first (R83). -/
def imm16 (b2 b3 : Byte) : Word := b3 ++ b2

/-- Row 0x of the opcode map (R94). -/
def row0 : List Entry :=
  [.one .nop, .three .lxiB, .one .staxB, .one .inxB, .one .inrB, .one .dcrB, .two .mviB, .one .rlc,
  .one .undocumented08, .one .dadB, .one .ldaxB, .one .dcxB, .one .inrC, .one .dcrC, .two .mviC, .one .rrc]

/-- Row 1x of the opcode map (R94). -/
def row1 : List Entry :=
  [.one .undocumented10, .three .lxiD, .one .staxD, .one .inxD, .one .inrD, .one .dcrD, .two .mviD, .one .ral,
  .one .undocumented18, .one .dadD, .one .ldaxD, .one .dcxD, .one .inrE, .one .dcrE, .two .mviE, .one .rar]

/-- Row 2x of the opcode map (R94). -/
def row2 : List Entry :=
  [.one .undocumented20, .three .lxiH, .three .shld, .one .inxH, .one .inrH, .one .dcrH, .two .mviH, .one .daa,
  .one .undocumented28, .one .dadH, .three .lhld, .one .dcxH, .one .inrL, .one .dcrL, .two .mviL, .one .cma]

/-- Row 3x of the opcode map (R94). -/
def row3 : List Entry :=
  [.one .undocumented30, .three .lxiSp, .three .sta, .one .inxSp, .one .inrM, .one .dcrM, .two .mviM, .one .stc,
  .one .undocumented38, .one .dadSp, .three .lda, .one .dcxSp, .one .inrA, .one .dcrA, .two .mviA, .one .cmc]

/-- Row 4x of the opcode map (R94). -/
def row4 : List Entry :=
  [.one .movBB, .one .movBC, .one .movBD, .one .movBE, .one .movBH, .one .movBL, .one .movBM, .one .movBA, .one .movCB,
  .one .movCC, .one .movCD, .one .movCE, .one .movCH, .one .movCL, .one .movCM, .one .movCA]

/-- Row 5x of the opcode map (R94). -/
def row5 : List Entry :=
  [.one .movDB, .one .movDC, .one .movDD, .one .movDE, .one .movDH, .one .movDL, .one .movDM, .one .movDA, .one .movEB,
  .one .movEC, .one .movED, .one .movEE, .one .movEH, .one .movEL, .one .movEM, .one .movEA]

/-- Row 6x of the opcode map (R94). -/
def row6 : List Entry :=
  [.one .movHB, .one .movHC, .one .movHD, .one .movHE, .one .movHH, .one .movHL, .one .movHM, .one .movHA, .one .movLB,
  .one .movLC, .one .movLD, .one .movLE, .one .movLH, .one .movLL, .one .movLM, .one .movLA]

/-- Row 7x of the opcode map (R94). -/
def row7 : List Entry :=
  [.one .movMB, .one .movMC, .one .movMD, .one .movME, .one .movMH, .one .movML, .one .hlt, .one .movMA, .one .movAB,
  .one .movAC, .one .movAD, .one .movAE, .one .movAH, .one .movAL, .one .movAM, .one .movAA]

/-- Row 8x of the opcode map (R94). -/
def row8 : List Entry :=
  [.one .addB, .one .addC, .one .addD, .one .addE, .one .addH, .one .addL, .one .addM, .one .addA, .one .adcB,
  .one .adcC, .one .adcD, .one .adcE, .one .adcH, .one .adcL, .one .adcM, .one .adcA]

/-- Row 9x of the opcode map (R94). -/
def row9 : List Entry :=
  [.one .subB, .one .subC, .one .subD, .one .subE, .one .subH, .one .subL, .one .subM, .one .subA, .one .sbbB,
  .one .sbbC, .one .sbbD, .one .sbbE, .one .sbbH, .one .sbbL, .one .sbbM, .one .sbbA]

/-- Row Ax of the opcode map (R94). -/
def rowA : List Entry :=
  [.one .anaB, .one .anaC, .one .anaD, .one .anaE, .one .anaH, .one .anaL, .one .anaM, .one .anaA, .one .xraB,
  .one .xraC, .one .xraD, .one .xraE, .one .xraH, .one .xraL, .one .xraM, .one .xraA]

/-- Row Bx of the opcode map (R94). -/
def rowB : List Entry :=
  [.one .oraB, .one .oraC, .one .oraD, .one .oraE, .one .oraH, .one .oraL, .one .oraM, .one .oraA, .one .cmpB,
  .one .cmpC, .one .cmpD, .one .cmpE, .one .cmpH, .one .cmpL, .one .cmpM, .one .cmpA]

/-- Row Cx of the opcode map (R94). -/
def rowC : List Entry :=
  [.one .rnz, .one .popB, .three .jnz, .three .jmp, .three .cnz, .one .pushB, .two .adi, .one .rst0, .one .rz,
  .one .ret, .three .jz, .one .undocumentedCB, .three .cz, .three .call, .two .aci, .one .rst1]

/-- Row Dx of the opcode map (R94). -/
def rowD : List Entry :=
  [.one .rnc, .one .popD, .three .jnc, .two .outPort, .three .cnc, .one .pushD, .two .sui, .one .rst2, .one .rc,
  .one .undocumentedD9, .three .jc, .two .inPort, .three .cc, .one .undocumentedDD, .two .sbi, .one .rst3]

/-- Row Ex of the opcode map (R94). -/
def rowE : List Entry :=
  [.one .rpo, .one .popH, .three .jpo, .one .xthl, .three .cpo, .one .pushH, .two .ani, .one .rst4, .one .rpe,
  .one .pchl, .three .jpe, .one .xchg, .three .cpe, .one .undocumentedED, .two .xri, .one .rst5]

/-- Row Fx of the opcode map (R94). -/
def rowF : List Entry :=
  [.one .rp, .one .popPsw, .three .jp, .one .di, .three .cp, .one .pushPsw, .two .ori, .one .rst6, .one .rm, .one .sphl,
  .three .jm, .one .ei, .three .cm, .one .undocumentedFD, .two .cpi, .one .rst7]

/-- The complete opcode map (R94): the row of each high hex digit, in it the entry of each low one. -/
def opcodeMap : List (List Entry) :=
  [row0, row1, row2, row3, row4, row5, row6, row7, row8, row9, rowA, rowB, rowC, rowD, rowE, rowF]

/-- The map is total (R93, R95): sixteen rows. -/
theorem opcodeMap_length : opcodeMap.length = 16 := rfl

/-- The map is total (R93, R95): sixteen entries in every row. -/
theorem opcodeMap_row_length : ∀ row ∈ opcodeMap, row.length = 16 := by decide

/-- The entry at a high and a low hex digit. -/
def opcodeAt (hi lo : Fin 16) : Entry :=
  (opcodeMap[hi.val]'hi.isLt)[lo.val]'(
    (opcodeMap_row_length _ (List.getElem_mem (l := opcodeMap) hi.isLt)).symm ▸ lo.isLt)

/-- `LUT[op]` (R95): no default, every opcode byte has its entry. -/
def lut (op : Byte) : Entry :=
  opcodeAt ⟨op.toNat / 16, Nat.div_lt_of_lt_mul op.isLt⟩ ⟨op.toNat % 16, Nat.mod_lt _ (by decide)⟩

/-- What the decoder answers. -/
inductive Decoded where
  /-- an instruction, and the bytes after it -/
  | ok (i : Instr) (rest : List Byte)
  /-- there is no opcode byte -/
  | noOpcode
  /-- the operand bytes of this opcode are not all there -/
  | missingOperand (op : Byte)
  deriving DecidableEq, Repr

/-- The decoder (R80-R83, R95): the opcode byte alone fixes the handler and the length. Total on any bytes. -/
def decode : List Byte → Decoded
  | [] => .noOpcode
  | op :: rest =>
    match lut op with
    | .one i => .ok i rest
    | .two i =>
      match rest with
      | b2 :: rest => .ok (i b2) rest
      | [] => .missingOperand op
    | .three i =>
      match rest with
      | b2 :: b3 :: rest => .ok (i (imm16 b2 b3)) rest
      | [_] => .missingOperand op
      | [] => .missingOperand op

/-- The three bytes that hold `w`'s low `nbits` bits, bit 0 the least significant bit of the first byte, every bit above
`nbits` zero. -/
def tableBytes (nbits w : Nat) : List Byte :=
  let v := w % 2 ^ nbits
  [BitVec.ofNat 8 v, BitVec.ofNat 8 (v / 2 ^ 8), BitVec.ofNat 8 (v / 2 ^ 16)]

/-- The instruction the decoder reads from an instruction whose bits are `w`, numbered as opcode_table.json numbers them. -/
def decodeTableWord (nbits w : Nat) : Option Instr :=
  match decode (tableBytes nbits w) with
  | .ok i _ => some i
  | .noOpcode => none
  | .missingOperand _ => none

/-- A row's format and field values (opcode_table.json, columns "format" and "source_fields"). -/
def Instr.form : Instr → Form
  | .nop => .nop
  | .lxiB imm => .lxi .bc imm
  | .staxB => .stax .bc
  | .inxB => .inx .bc
  | .inrB => .inr .b
  | .dcrB => .dcr .b
  | .mviB imm => .mvi .b imm
  | .rlc => .rlc
  | .undocumented08 => .undocumented 0x08
  | .dadB => .dad .bc
  | .ldaxB => .ldax .bc
  | .dcxB => .dcx .bc
  | .inrC => .inr .c
  | .dcrC => .dcr .c
  | .mviC imm => .mvi .c imm
  | .rrc => .rrc
  | .undocumented10 => .undocumented 0x10
  | .lxiD imm => .lxi .de imm
  | .staxD => .stax .de
  | .inxD => .inx .de
  | .inrD => .inr .d
  | .dcrD => .dcr .d
  | .mviD imm => .mvi .d imm
  | .ral => .ral
  | .undocumented18 => .undocumented 0x18
  | .dadD => .dad .de
  | .ldaxD => .ldax .de
  | .dcxD => .dcx .de
  | .inrE => .inr .e
  | .dcrE => .dcr .e
  | .mviE imm => .mvi .e imm
  | .rar => .rar
  | .undocumented20 => .undocumented 0x20
  | .lxiH imm => .lxi .hl imm
  | .shld addr => .shld addr
  | .inxH => .inx .hl
  | .inrH => .inr .h
  | .dcrH => .dcr .h
  | .mviH imm => .mvi .h imm
  | .daa => .daa
  | .undocumented28 => .undocumented 0x28
  | .dadH => .dad .hl
  | .lhld addr => .lhld addr
  | .dcxH => .dcx .hl
  | .inrL => .inr .l
  | .dcrL => .dcr .l
  | .mviL imm => .mvi .l imm
  | .cma => .cma
  | .undocumented30 => .undocumented 0x30
  | .lxiSp imm => .lxi .sp imm
  | .sta addr => .sta addr
  | .inxSp => .inx .sp
  | .inrM => .inrM
  | .dcrM => .dcrM
  | .mviM imm => .mviM imm
  | .stc => .stc
  | .undocumented38 => .undocumented 0x38
  | .dadSp => .dad .sp
  | .lda addr => .lda addr
  | .dcxSp => .dcx .sp
  | .inrA => .inr .a
  | .dcrA => .dcr .a
  | .mviA imm => .mvi .a imm
  | .cmc => .cmc
  | .movBB => .movRR .b .b
  | .movBC => .movRR .b .c
  | .movBD => .movRR .b .d
  | .movBE => .movRR .b .e
  | .movBH => .movRR .b .h
  | .movBL => .movRR .b .l
  | .movBM => .movRM .b
  | .movBA => .movRR .b .a
  | .movCB => .movRR .c .b
  | .movCC => .movRR .c .c
  | .movCD => .movRR .c .d
  | .movCE => .movRR .c .e
  | .movCH => .movRR .c .h
  | .movCL => .movRR .c .l
  | .movCM => .movRM .c
  | .movCA => .movRR .c .a
  | .movDB => .movRR .d .b
  | .movDC => .movRR .d .c
  | .movDD => .movRR .d .d
  | .movDE => .movRR .d .e
  | .movDH => .movRR .d .h
  | .movDL => .movRR .d .l
  | .movDM => .movRM .d
  | .movDA => .movRR .d .a
  | .movEB => .movRR .e .b
  | .movEC => .movRR .e .c
  | .movED => .movRR .e .d
  | .movEE => .movRR .e .e
  | .movEH => .movRR .e .h
  | .movEL => .movRR .e .l
  | .movEM => .movRM .e
  | .movEA => .movRR .e .a
  | .movHB => .movRR .h .b
  | .movHC => .movRR .h .c
  | .movHD => .movRR .h .d
  | .movHE => .movRR .h .e
  | .movHH => .movRR .h .h
  | .movHL => .movRR .h .l
  | .movHM => .movRM .h
  | .movHA => .movRR .h .a
  | .movLB => .movRR .l .b
  | .movLC => .movRR .l .c
  | .movLD => .movRR .l .d
  | .movLE => .movRR .l .e
  | .movLH => .movRR .l .h
  | .movLL => .movRR .l .l
  | .movLM => .movRM .l
  | .movLA => .movRR .l .a
  | .movMB => .movMR .b
  | .movMC => .movMR .c
  | .movMD => .movMR .d
  | .movME => .movMR .e
  | .movMH => .movMR .h
  | .movML => .movMR .l
  | .hlt => .hlt
  | .movMA => .movMR .a
  | .movAB => .movRR .a .b
  | .movAC => .movRR .a .c
  | .movAD => .movRR .a .d
  | .movAE => .movRR .a .e
  | .movAH => .movRR .a .h
  | .movAL => .movRR .a .l
  | .movAM => .movRM .a
  | .movAA => .movRR .a .a
  | .addB => .aluR .add .b
  | .addC => .aluR .add .c
  | .addD => .aluR .add .d
  | .addE => .aluR .add .e
  | .addH => .aluR .add .h
  | .addL => .aluR .add .l
  | .addM => .aluM .add
  | .addA => .aluR .add .a
  | .adcB => .aluR .adc .b
  | .adcC => .aluR .adc .c
  | .adcD => .aluR .adc .d
  | .adcE => .aluR .adc .e
  | .adcH => .aluR .adc .h
  | .adcL => .aluR .adc .l
  | .adcM => .aluM .adc
  | .adcA => .aluR .adc .a
  | .subB => .aluR .sub .b
  | .subC => .aluR .sub .c
  | .subD => .aluR .sub .d
  | .subE => .aluR .sub .e
  | .subH => .aluR .sub .h
  | .subL => .aluR .sub .l
  | .subM => .aluM .sub
  | .subA => .aluR .sub .a
  | .sbbB => .aluR .sbb .b
  | .sbbC => .aluR .sbb .c
  | .sbbD => .aluR .sbb .d
  | .sbbE => .aluR .sbb .e
  | .sbbH => .aluR .sbb .h
  | .sbbL => .aluR .sbb .l
  | .sbbM => .aluM .sbb
  | .sbbA => .aluR .sbb .a
  | .anaB => .aluR .ana .b
  | .anaC => .aluR .ana .c
  | .anaD => .aluR .ana .d
  | .anaE => .aluR .ana .e
  | .anaH => .aluR .ana .h
  | .anaL => .aluR .ana .l
  | .anaM => .aluM .ana
  | .anaA => .aluR .ana .a
  | .xraB => .aluR .xra .b
  | .xraC => .aluR .xra .c
  | .xraD => .aluR .xra .d
  | .xraE => .aluR .xra .e
  | .xraH => .aluR .xra .h
  | .xraL => .aluR .xra .l
  | .xraM => .aluM .xra
  | .xraA => .aluR .xra .a
  | .oraB => .aluR .ora .b
  | .oraC => .aluR .ora .c
  | .oraD => .aluR .ora .d
  | .oraE => .aluR .ora .e
  | .oraH => .aluR .ora .h
  | .oraL => .aluR .ora .l
  | .oraM => .aluM .ora
  | .oraA => .aluR .ora .a
  | .cmpB => .aluR .cmp .b
  | .cmpC => .aluR .cmp .c
  | .cmpD => .aluR .cmp .d
  | .cmpE => .aluR .cmp .e
  | .cmpH => .aluR .cmp .h
  | .cmpL => .aluR .cmp .l
  | .cmpM => .aluM .cmp
  | .cmpA => .aluR .cmp .a
  | .rnz => .rcc .nz
  | .popB => .pop .bc
  | .jnz addr => .jcc .nz addr
  | .jmp addr => .jmp addr
  | .cnz addr => .ccc .nz addr
  | .pushB => .push .bc
  | .adi imm => .aluI .add imm
  | .rst0 => .rst 0
  | .rz => .rcc .z
  | .ret => .ret
  | .jz addr => .jcc .z addr
  | .undocumentedCB => .undocumented 0xCB
  | .cz addr => .ccc .z addr
  | .call addr => .call addr
  | .aci imm => .aluI .adc imm
  | .rst1 => .rst 1
  | .rnc => .rcc .nc
  | .popD => .pop .de
  | .jnc addr => .jcc .nc addr
  | .outPort port => .outPort port
  | .cnc addr => .ccc .nc addr
  | .pushD => .push .de
  | .sui imm => .aluI .sub imm
  | .rst2 => .rst 2
  | .rc => .rcc .c
  | .undocumentedD9 => .undocumented 0xD9
  | .jc addr => .jcc .c addr
  | .inPort port => .inPort port
  | .cc addr => .ccc .c addr
  | .undocumentedDD => .undocumented 0xDD
  | .sbi imm => .aluI .sbb imm
  | .rst3 => .rst 3
  | .rpo => .rcc .po
  | .popH => .pop .hl
  | .jpo addr => .jcc .po addr
  | .xthl => .xthl
  | .cpo addr => .ccc .po addr
  | .pushH => .push .hl
  | .ani imm => .aluI .ana imm
  | .rst4 => .rst 4
  | .rpe => .rcc .pe
  | .pchl => .pchl
  | .jpe addr => .jcc .pe addr
  | .xchg => .xchg
  | .cpe addr => .ccc .pe addr
  | .undocumentedED => .undocumented 0xED
  | .xri imm => .aluI .xra imm
  | .rst5 => .rst 5
  | .rp => .rcc .p
  | .popPsw => .pop .psw
  | .jp addr => .jcc .p addr
  | .di => .di
  | .cp addr => .ccc .p addr
  | .pushPsw => .push .psw
  | .ori imm => .aluI .ora imm
  | .rst6 => .rst 6
  | .rm => .rcc .m
  | .sphl => .sphl
  | .jm addr => .jcc .m addr
  | .ei => .ei
  | .cm addr => .ccc .m addr
  | .undocumentedFD => .undocumented 0xFD
  | .cpi imm => .aluI .cmp imm
  | .rst7 => .rst 7

/-- Register field code (R84). -/
def Reg8.code : Reg8 → BitVec 3
  | .b => 0b000 | .c => 0b001 | .d => 0b010 | .e => 0b011 | .h => 0b100 | .l => 0b101 | .a => 0b111

/-- The register field code of the memory operand M (R84). -/
def codeM : BitVec 3 := 0b110

/-- Register-pair field code of `RP[p]` (R85). -/
def Rp.code : Rp → BitVec 2
  | .bc => 0b00 | .de => 0b01 | .hl => 0b10 | .sp => 0b11

/-- Register-pair field code of `RPS[p]` (R85). -/
def Rps.code : Rps → BitVec 2
  | .bc => 0b00 | .de => 0b01 | .hl => 0b10 | .psw => 0b11

/-- Field X of LDAX and STAX (R88). -/
def Ind.code : Ind → BitVec 1
  | .bc => 0 | .de => 1

/-- ALU operation field code (R89). -/
def AluOp.code : AluOp → BitVec 3
  | .add => 0b000 | .adc => 0b001 | .sub => 0b010 | .sbb => 0b011
  | .ana => 0b100 | .xra => 0b101 | .ora => 0b110 | .cmp => 0b111

/-- Condition field code (R90). -/
def Cond.code : Cond → BitVec 3
  | .nz => 0b000 | .z => 0b001 | .nc => 0b010 | .c => 0b011
  | .po => 0b100 | .pe => 0b101 | .p => 0b110 | .m => 0b111

/-- The opcode byte of a form: the field patterns of R88, the fixed opcodes of R91. -/
def Form.opcode : Form → Byte
  | .movRR dst src => 0b01#2 ++ dst.code ++ src.code
  | .movRM dst => 0b01#2 ++ dst.code ++ codeM
  | .movMR src => 0b01#2 ++ codeM ++ src.code
  | .mvi dst _ => 0b00#2 ++ dst.code ++ 0b110#3
  | .mviM _ => 0b00#2 ++ codeM ++ 0b110#3
  | .inr r => 0b00#2 ++ r.code ++ 0b100#3
  | .inrM => 0b00#2 ++ codeM ++ 0b100#3
  | .dcr r => 0b00#2 ++ r.code ++ 0b101#3
  | .dcrM => 0b00#2 ++ codeM ++ 0b101#3
  | .aluR op src => 0b10#2 ++ op.code ++ src.code
  | .aluM op => 0b10#2 ++ op.code ++ codeM
  | .aluI op _ => 0b11#2 ++ op.code ++ 0b110#3
  | .lxi p _ => 0b00#2 ++ p.code ++ 0b0001#4
  | .inx p => 0b00#2 ++ p.code ++ 0b0011#4
  | .dcx p => 0b00#2 ++ p.code ++ 0b1011#4
  | .dad p => 0b00#2 ++ p.code ++ 0b1001#4
  | .push p => 0b11#2 ++ p.code ++ 0b0101#4
  | .pop p => 0b11#2 ++ p.code ++ 0b0001#4
  | .ldax p => 0b000#3 ++ p.code ++ 0b1010#4
  | .stax p => 0b000#3 ++ p.code ++ 0b0010#4
  | .jcc cc _ => 0b11#2 ++ cc.code ++ 0b010#3
  | .ccc cc _ => 0b11#2 ++ cc.code ++ 0b100#3
  | .rcc cc => 0b11#2 ++ cc.code ++ 0b000#3
  | .rst n => 0b11#2 ++ n ++ 0b111#3
  | .nop => 0x00 | .rlc => 0x07 | .rrc => 0x0F | .ral => 0x17 | .rar => 0x1F
  | .shld _ => 0x22 | .daa => 0x27 | .lhld _ => 0x2A | .cma => 0x2F | .sta _ => 0x32
  | .stc => 0x37 | .lda _ => 0x3A | .cmc => 0x3F | .hlt => 0x76 | .jmp _ => 0xC3
  | .ret => 0xC9 | .call _ => 0xCD | .outPort _ => 0xD3 | .inPort _ => 0xDB | .xthl => 0xE3
  | .pchl => 0xE9 | .xchg => 0xEB | .di => 0xF3 | .sphl => 0xF9 | .ei => 0xFB
  | .undocumented op => op

/-- The bytes of a 16-bit operand, low byte first (R83, R88). -/
def operand16 (v : Word) : List Byte := [v.extractLsb' 0 8, v.extractLsb' 8 8]

/-- The operand bytes of a form (R88). -/
def Form.operands : Form → List Byte
  | .mvi _ imm => [imm]
  | .mviM imm => [imm]
  | .aluI _ imm => [imm]
  | .inPort port => [port]
  | .outPort port => [port]
  | .lxi _ imm => operand16 imm
  | .lda addr => operand16 addr
  | .sta addr => operand16 addr
  | .lhld addr => operand16 addr
  | .shld addr => operand16 addr
  | .jmp addr => operand16 addr
  | .jcc _ addr => operand16 addr
  | .call addr => operand16 addr
  | .ccc _ addr => operand16 addr
  | .nop | .hlt | .ei | .di | .xchg | .inrM | .dcrM | .daa | .rlc | .rrc | .ral | .rar | .stc | .cmc | .cma | .xthl
  | .sphl | .ret | .pchl | .movRR _ _ | .movRM _ | .movMR _ | .ldax _ | .stax _ | .aluR _ _ | .aluM _ | .inr _ | .dcr _
  | .inx _ | .dcx _ | .dad _ | .push _ | .pop _ | .rcc _ | .rst _ | .undocumented _ => []

/-- The encoder: the bytes of an instruction, opcode byte first. -/
def encode (i : Instr) : List Byte := i.form.opcode :: i.form.operands

/-- The length of an instruction in bytes (R87, R88). -/
def Instr.length (i : Instr) : Nat := (encode i).length

/-- An instruction is well formed when its bytes are the machine code of exactly one instruction. -/
def Instr.wellFormed (i : Instr) : Bool := wellFormedCode (encode i)

/-- The thirteen opcodes with no handler (R93): the twelve undocumented ones of R230 and DAA. -/
def unimplementedOpcodes : List Byte :=
  [0x08, 0x10, 0x18, 0x20, 0x27, 0x28, 0x30, 0x38, 0xCB, 0xD9, 0xDD, 0xED, 0xFD]

end Sys2Proof
end

