-- ==== Sys2Proof/Machine/Fetch.lean ====
section
/-!
DEFINITION. Fetch (30_encoding.md R80-R83): the opcode byte at PC, then the operand bytes its length asks for, at addresses
modulo 65536.
-/

namespace Sys2Proof.Machine

/-- The bytes at an address and after it, addresses modulo 65536. -/
def Memory.bytesAt (m : Memory) (addr : Word) : Nat → List Byte
  | 0 => []
  | n + 1 => m.read addr :: Memory.bytesAt m (addr + 1) n

/-- The dispatcher's entry for the opcode byte at PC (R80, R95). -/
def State.entry (s : State) : Entry := lut (s.mem.read s.pc)

/-- The instruction at PC (R86): `b2` and `b3` are read only for the lengths that have them (R82). -/
def State.fetchInstr (s : State) : Instr :=
  match s.entry with
  | .one i => i
  | .two i => i (s.mem.read (s.pc + 1))
  | .three i => i (imm16 (s.mem.read (s.pc + 1)) (s.mem.read (s.pc + 2)))

/-- The bytes of the instruction at PC: what the step reads (R82), and the disassembler's read-only view (R256). -/
def State.fetchBytes (s : State) : List Byte := s.mem.bytesAt s.pc s.entry.length

/-- The state with an instruction's bytes placed at PC and STATUS Running, so that the next step fetches and runs it. -/
def State.withCode (s : State) (bytes : List Byte) : State := { s.loadBytes s.pc bytes with status := .running }

end Sys2Proof.Machine
end

