-- ==== Sys2Proof/Machine/Step.lean ====
section
/-! DEFINITION. One step of the block (30_encoding.md R86). -/

namespace Sys2Proof.Machine

/-- One step (R86): a step taken when STATUS is not Running changes nothing (70_reset_and_hazards.md R273); otherwise the
instruction at PC is executed, whole. -/
def step (s : State) : Host.Outcome State Fault Refusal :=
  if s.isRunning then exec s.fetchInstr s else .next s

/-- `s` with the instruction whose bits are `w` stored where the next step fetches, and STATUS Running. -/
def State.withFetchWord (s : State) (nbits w : Nat) : State := s.withCode (tableBytes nbits w)

end Sys2Proof.Machine
end

