-- ==== Sys2Proof/Machine/Access.lean ====
section
/-!
DEFINITION. The accesses of a step, in order (20_memory.md R57, R58, R71): the opcode byte, the operand bytes in ascending
order, then the accesses of the instruction's rule as its pseudocode writes them, each with its address and the byte that
passes. The step's effect on memory and on the I/O interface is what these accesses say; a statement holds the two together.
-/

namespace Sys2Proof.Machine

/-- One access. -/
inductive Access where
  /-- a byte of the instruction (R80, R82) -/
  | fetch (addr : Word) (v : Byte)
  /-- `MemRead(addr, 1)` -/
  | read (addr : Word) (v : Byte)
  /-- `MemWrite(addr, 1, v)` -/
  | write (addr : Word) (v : Byte)
  /-- an action on the I/O interface (R70) -/
  | io (e : IoEvent)
  deriving DecidableEq, Repr

/-- The instruction bytes from an address on (R71: ascending). -/
def fetchAccesses (m : Memory) (addr : Word) : Nat → List Access
  | 0 => []
  | n + 1 => .fetch addr (m.read addr) :: fetchAccesses m (addr + 1) n

/-- A byte read. -/
def State.readAccess (s : State) (addr : Word) : Access := .read addr (s.mem.read addr)

/-- A word read: the byte at the address first, as a pop reads SP before SP+1 (R61, R71). DESIGN CHOICE for XTHL, log
entry 6. -/
def State.wordReads (s : State) (addr : Word) : List Access := [s.readAccess addr, s.readAccess (addr + 1)]

/-- A word write: the low byte first (R54, R71). -/
def wordWrites (addr v : Word) : List Access := [.write addr (loByte v), .write (addr + 1) (hiByte v)]

/-- A push: the high byte at SP-1, then the low byte at SP-2 (R60, R71). -/
def State.pushWrites (s : State) (v : Word) : List Access :=
  [.write (s.sp - 1) (hiByte v), .write (s.sp - 2) (loByte v)]

/-- The accesses of each form's rule, after its bytes are fetched (R57, R58). -/
def State.formAccesses (s : State) : Form → List Access
  | .movRM _ | .aluM _ => [s.readAccess s.hl]
  | .movMR src => [.write s.hl (s.reg src)]
  | .mviM imm => [.write s.hl imm]
  | .inrM => [s.readAccess s.hl, .write s.hl (s.readM + 1)]
  | .dcrM => [s.readAccess s.hl, .write s.hl (s.readM - 1)]
  | .lda addr => [s.readAccess addr]
  | .sta addr => [.write addr s.a]
  | .ldax p => [s.readAccess (s.ind p)]
  | .stax p => [.write (s.ind p) s.a]
  | .lhld addr => s.wordReads addr
  | .shld addr => wordWrites addr s.hl
  | .push p => s.pushWrites (s.rps p)
  | .pop _ | .ret => s.wordReads s.sp
  | .xthl => s.wordReads s.sp ++ wordWrites s.sp s.hl
  | .call _ => s.pushWrites (s.pc + 3)
  | .ccc cc _ => if s.flags.cond cc then s.pushWrites (s.pc + 3) else []
  | .rcc cc => if s.flags.cond cc then s.wordReads s.sp else []
  | .rst _ => s.pushWrites (s.pc + 1)
  | .inPort port => [.io (.input port (s.ioIn port))]
  | .outPort port => [.io (.output port s.a)]
  | .nop | .hlt | .ei | .di | .movRR _ _ | .mvi _ _ | .lxi _ _ | .xchg | .aluR _ _ | .aluI _ _ | .inr _ | .dcr _
  | .inx _ | .dcx _ | .dad _ | .daa | .rlc | .rrc | .ral | .rar | .stc | .cmc | .cma | .sphl | .jmp _ | .jcc _ _
  | .pchl | .undocumented _ => []

/-- The accesses of the step taken from a state: none when STATUS is not Running (70_reset_and_hazards.md R273). -/
def State.accesses (s : State) : List Access :=
  if s.isRunning then
    fetchAccesses s.mem s.pc s.entry.length ++ s.formAccesses s.fetchInstr.form
  else []

/-- A memory after one access. -/
def Memory.applied (m : Memory) : Access → Memory
  | .write addr v => m.write addr v
  | .fetch _ _ | .read _ _ | .io _ => m

/-- A memory after a list of accesses, in order. -/
def Memory.replay (m : Memory) (as : List Access) : Memory := as.foldl Memory.applied m

/-- The I/O event of an access, if it is one. -/
def Access.ioEvent : Access → Option IoEvent
  | .io e => some e
  | .fetch _ _ | .read _ _ | .write _ _ => none

end Sys2Proof.Machine
end

