-- ==== Sys2Proof/Safety.lean ====
section
/-!
DEFINITION. What claims about the whole machine are stated with: the invariant of its states, the end of a run, and the
tables that say which instruction may write which piece of state.
-/

namespace Sys2Proof.Machine

/-! ## States -/

/-- What holds of the fault record: a state is Faulted only over an opcode with no handler, which stands at PC
(60_exceptions.md R240, 30_encoding.md R93). -/
def FaultRecordTrue (s : State) : Prop :=
  ∀ op addr, s.status = .faulted op addr → addr = s.pc ∧ s.mem.read addr = op ∧ op ∈ unimplementedOpcodes

/-- The invariant: memory is in its canonical form, AC reads false (10_state.md R27), and the fault record is true. -/
def Inv (s : State) : Prop := s.mem.wf ∧ s.flags.ac = false ∧ FaultRecordTrue s

/-- The run has ended (70_reset_and_hazards.md R274). -/
def Ended (s : State) : Prop := s.status ≠ .running

/-- The run has ended normally: a HLT was executed (R274). -/
def EndedNormally (s : State) : Prop := s.status = .halted

/-- The run has ended in a fault (R274). -/
def EndedInFault (s : State) : Prop := ∃ op addr, s.status = .faulted op addr

/-- A safe state: the run has not ended in a fault. -/
def Safe (s : State) : Prop := ¬ EndedInFault s

/-! ## What results are stated with -/

/-- A byte has an even number of 1 bits, by counting them (10_state.md R25). -/
def evenOnes (v : Byte) : Bool := ((List.range 8).countP fun k => v.getLsbD k) % 2 == 0

/-- Z, S and P of a result byte as R25 words them, with the CY and AC given. -/
def flagsOf (v : Byte) (cy ac : Bool) : Flags where
  z := v == 0
  s := decide (128 ≤ v.toNat)
  p := evenOnes v
  cy := cy
  ac := ac

/-- A flag as the number an ALU operation adds or subtracts (40_arith_logic.md R110). -/
def carryByte (cy : Bool) : Byte := if cy then 1 else 0

/-- `Fbyte` as R28 writes it: `S<<7 | Z<<6 | AC<<4 | P<<2 | 1<<1 | CY`. -/
def flagByte (f : Flags) : Byte :=
  BitVec.ofNat 8 (128 * f.s.toNat + 64 * f.z.toNat + 16 * f.ac.toNat + 4 * f.p.toNat + 2 + f.cy.toNat)

/-- The high and low register of a pair PUSH and POP name, and A and the flag byte for the PSW (R85). -/
def pairBytes (s : State) : Rps → Byte × Byte
  | .bc => (s.b, s.c)
  | .de => (s.d, s.e)
  | .hl => (s.h, s.l)
  | .psw => (s.a, flagByte s.flags)

/-- Where an ALU instruction's second operand comes from (R145). -/
inductive AluSource where
  | register (r : Reg8)
  | memory
  | immediate (imm : Byte)
  deriving DecidableEq, Repr

/-- The form of an ALU operation with this source. -/
def AluSource.form (op : AluOp) : AluSource → Form
  | .register r => .aluR op r
  | .memory => .aluM op
  | .immediate imm => .aluI op imm

/-- The second operand: `R[r]`, `MemRead(HL, 1)` or `imm8` (R145). -/
def AluSource.value (s : State) : AluSource → Byte
  | .register r => s.reg r
  | .memory => s.mem.read (word s.h s.l)
  | .immediate imm => imm

/-- The bytes of the instruction with operation code AAA: `10 AAA SSS`, `10 AAA 110`, or `11 AAA 110` and imm8 (R145). -/
def AluSource.code (aaa : BitVec 3) : AluSource → List Byte
  | .register r => [0b10#2 ++ aaa ++ r.code]
  | .memory => [0b10#2 ++ aaa ++ 0b110#3]
  | .immediate imm => [0b11#2 ++ aaa ++ 0b110#3, imm]

/-- The length of the instruction (R145). -/
def AluSource.length : AluSource → Word
  | .register _ => 1
  | .memory => 1
  | .immediate _ => 2

/-- Every byte of memory is what it was, but at one address. -/
def StoresByte (s t : State) (addr : Word) (v : Byte) : Prop :=
  ∀ x, t.mem.read x = if x = addr then v else s.mem.read x

/-- Every byte of memory is what it was, but at two different addresses. -/
def StoresTwo (s t : State) (addr1 : Word) (v1 : Byte) (addr2 : Word) (v2 : Byte) : Prop :=
  ∀ x, t.mem.read x = if x = addr1 then v1 else if x = addr2 then v2 else s.mem.read x

/-- `Push16` of a word given by its bytes (20_memory.md R60): the high byte at SP-1, the low byte at SP-2, every other
byte unchanged, SP 2 less. -/
def Pushes (s t : State) (hi lo : Byte) : Prop :=
  t.sp = s.sp - 2 ∧ StoresTwo s t (s.sp - 1) hi (s.sp - 2) lo

/-! ## What an instruction may write -/

/-- The opcodes with no handler: the undocumented ones (R230) and DAA (R143). -/
def isUnimplemented : Form → Bool
  | .daa => true
  | .undocumented _ => true
  | .nop | .hlt | .ei | .di | .movRR _ _ | .movRM _ | .movMR _ | .mvi _ _ | .mviM _ | .lxi _ _ | .lda _
  | .sta _ | .lhld _ | .shld _ | .ldax _ | .stax _ | .xchg | .aluR _ _ | .aluM _ | .aluI _ _ | .inr _ | .inrM
  | .dcr _ | .dcrM | .inx _ | .dcx _ | .dad _ | .rlc | .rrc | .ral | .rar | .stc | .cmc | .cma | .push _
  | .pop _ | .xthl | .sphl | .jmp _ | .jcc _ _ | .call _ | .ccc _ _ | .ret | .rcc _ | .rst _ | .pchl
  | .inPort _ | .outPort _ => false

/-- The target an instruction writes to PC, if it writes one (41_stack_control.md R176, 30_encoding.md R81). -/
def target (s : State) : Form → Option Word
  | .jmp addr => some addr
  | .jcc cc addr => if s.flags.cond cc then some addr else none
  | .call addr => some addr
  | .ccc cc addr => if s.flags.cond cc then some addr else none
  | .ret => some (s.mem.readWord s.sp)
  | .rcc cc => if s.flags.cond cc then some (s.mem.readWord s.sp) else none
  | .rst n => some (BitVec.ofNat 16 (n.toNat * 8))
  | .pchl => some (word s.h s.l)
  | .nop | .hlt | .ei | .di | .movRR _ _ | .movRM _ | .movMR _ | .mvi _ _ | .mviM _ | .lxi _ _ | .lda _
  | .sta _ | .lhld _ | .shld _ | .ldax _ | .stax _ | .xchg | .aluR _ _ | .aluM _ | .aluI _ _ | .inr _ | .inrM
  | .dcr _ | .dcrM | .inx _ | .dcx _ | .dad _ | .daa | .rlc | .rrc | .ral | .rar | .stc | .cmc | .cma | .push _
  | .pop _ | .xthl | .sphl | .inPort _ | .outPort _ | .undocumented _ => none

/-- The byte registers of `RP[p]`. -/
def rpRegs : Rp → List Reg8
  | .bc => [.b, .c]
  | .de => [.d, .e]
  | .hl => [.h, .l]
  | .sp => []

/-- The byte registers of `RPS[p]`. -/
def rpsRegs : Rps → List Reg8
  | .bc => [.b, .c]
  | .de => [.d, .e]
  | .hl => [.h, .l]
  | .psw => [.a]

/-- The byte registers an instruction writes (10_state.md R21). -/
def writtenRegs : Form → List Reg8
  | .movRR dst _ => [dst]
  | .movRM dst => [dst]
  | .mvi dst _ => [dst]
  | .inr r => [r]
  | .dcr r => [r]
  | .lxi p _ => rpRegs p
  | .inx p => rpRegs p
  | .dcx p => rpRegs p
  | .pop p => rpsRegs p
  | .dad _ => [.h, .l]
  | .lhld _ => [.h, .l]
  | .xthl => [.h, .l]
  | .xchg => [.d, .e, .h, .l]
  | .aluR op _ => if op = .cmp then [] else [.a]
  | .aluM op => if op = .cmp then [] else [.a]
  | .aluI op _ => if op = .cmp then [] else [.a]
  | .rlc => [.a]
  | .rrc => [.a]
  | .ral => [.a]
  | .rar => [.a]
  | .cma => [.a]
  | .lda _ => [.a]
  | .ldax _ => [.a]
  | .inPort _ => [.a]
  | .nop | .hlt | .ei | .di | .movMR _ | .mviM _ | .sta _ | .shld _ | .stax _ | .inrM | .dcrM | .daa | .stc
  | .cmc | .push _ | .sphl | .jmp _ | .jcc _ _ | .call _ | .ccc _ _ | .ret | .rcc _ | .rst _ | .pchl
  | .outPort _ | .undocumented _ => []

/-- The instructions that write Z, S and P (10_state.md R26). -/
def writesZSP : Form → Bool
  | .aluR _ _ => true
  | .aluM _ => true
  | .aluI _ _ => true
  | .inr _ => true
  | .inrM => true
  | .dcr _ => true
  | .dcrM => true
  | .pop .psw => true
  | .nop | .hlt | .ei | .di | .movRR _ _ | .movRM _ | .movMR _ | .mvi _ _ | .mviM _ | .lxi _ _ | .lda _
  | .sta _ | .lhld _ | .shld _ | .ldax _ | .stax _ | .xchg | .inx _ | .dcx _ | .dad _ | .daa | .rlc | .rrc
  | .ral | .rar | .stc | .cmc | .cma | .push _ | .pop .bc | .pop .de | .pop .hl | .xthl | .sphl | .jmp _
  | .jcc _ _ | .call _ | .ccc _ _ | .ret | .rcc _ | .rst _ | .pchl | .inPort _ | .outPort _ | .undocumented _ => false

/-- The instructions that write CY (R26). -/
def writesCY : Form → Bool
  | .aluR _ _ => true
  | .aluM _ => true
  | .aluI _ _ => true
  | .dad _ => true
  | .rlc => true
  | .rrc => true
  | .ral => true
  | .rar => true
  | .stc => true
  | .cmc => true
  | .pop .psw => true
  | .nop | .hlt | .ei | .di | .movRR _ _ | .movRM _ | .movMR _ | .mvi _ _ | .mviM _ | .lxi _ _ | .lda _
  | .sta _ | .lhld _ | .shld _ | .ldax _ | .stax _ | .xchg | .inr _ | .inrM | .dcr _ | .dcrM | .inx _ | .dcx _
  | .daa | .cma | .push _ | .pop .bc | .pop .de | .pop .hl | .xthl | .sphl | .jmp _ | .jcc _ _ | .call _
  | .ccc _ _ | .ret | .rcc _ | .rst _ | .pchl | .inPort _ | .outPort _ | .undocumented _ => false

/-- The instructions that may write SP (10_state.md R29). -/
def writesSP : Form → Bool
  | .push _ => true
  | .pop _ => true
  | .call _ => true
  | .ccc _ _ => true
  | .ret => true
  | .rcc _ => true
  | .rst _ => true
  | .lxi .sp _ => true
  | .inx .sp => true
  | .dcx .sp => true
  | .sphl => true
  | .nop | .hlt | .ei | .di | .movRR _ _ | .movRM _ | .movMR _ | .mvi _ _ | .mviM _ | .lxi .bc _ | .lxi .de _
  | .lxi .hl _ | .lda _ | .sta _ | .lhld _ | .shld _ | .ldax _ | .stax _ | .xchg | .aluR _ _ | .aluM _
  | .aluI _ _ | .inr _ | .inrM | .dcr _ | .dcrM | .inx .bc | .inx .de | .inx .hl | .dcx .bc | .dcx .de
  | .dcx .hl | .dad _ | .daa | .rlc | .rrc | .ral | .rar | .stc | .cmc | .cma | .xthl | .jmp _ | .jcc _ _
  | .pchl | .inPort _ | .outPort _ | .undocumented _ => false

end Sys2Proof.Machine
end

