-- ==== Sys2Proof/Certificates/Slice0/Obligations.lean ====
section
/-!
DEFINITION. The statements for the provers. An instruction's statement gives its bytes, as the rule's encoding has them, and
that `exec` answers the next state the rule gives, for every state and all operands: what the equation does not name is
unchanged. Where the instruction stores, the next state's memory is given byte by byte.
-/

open Sys2Proof Sys2Proof.Machine

/-! ## Encoding and fetch -/

/-- Decoding the bytes of any instruction gives it back, and leaves what follows (R87, R88, R94). -/
def Obligations.DecodeOfEncode : Prop :=
  ∀ (i : Instr) (rest : List Byte), i.wellFormed = true ∧ decode (encode i ++ rest) = .ok i rest

/-- Bytes that decode are the bytes of the instruction they decode to: one encoding each (R98). -/
def Obligations.EncodeOfDecode : Prop :=
  ∀ (bytes rest : List Byte) (i : Instr), decode bytes = .ok i rest → encode i ++ rest = bytes

/-- The decoder accepts exactly the bytes that hold a whole instruction, by the lengths of R87, and says which part is
missing otherwise. -/
def Obligations.DecodeTotal : Prop :=
  ∀ bytes : List Byte,
    (decode bytes = .noOpcode ↔ bytes = []) ∧
    ∀ op operands, bytes = op :: operands →
      (decode bytes = .missingOperand op ↔ 1 + operands.length < opcodeLength op) ∧
      ((∃ i rest, decode bytes = .ok i rest) ↔ opcodeLength op ≤ 1 + operands.length)

/-- Instruction length by opcode, as R87 lists it, is the length the map of R94 gives. -/
def Obligations.LengthByOpcode : Prop :=
  ∀ op : Byte, (lut op).length =
    if op ∈ ([0x01, 0x11, 0x21, 0x31, 0x22, 0x2A, 0x32, 0x3A, 0xC2, 0xCA, 0xD2, 0xDA, 0xE2, 0xEA, 0xF2, 0xFA, 0xC3,
      0xC4, 0xCC, 0xD4, 0xDC, 0xE4, 0xEC, 0xF4, 0xFC, 0xCD] : List Byte) then 3
    else if op ∈ ([0x06, 0x0E, 0x16, 0x1E, 0x26, 0x2E, 0x36, 0x3E, 0xC6, 0xCE, 0xD6, 0xDE, 0xE6, 0xEE, 0xF6, 0xFE,
      0xD3, 0xDB] : List Byte) then 2
    else 1

/-- Words written out bit by bit from R88, one for each family, decode to the instructions they stand for. -/
def Obligations.WordsFromTheFormats : Prop :=
  decode [0b01010110] = .ok .movDM [] ∧ decode [0b01110110] = .ok .hlt [] ∧
  decode [0b00100110, 0x5A] = .ok (.mviH 0x5A) [] ∧ decode [0b00110001, 0x00, 0x24] = .ok (.lxiSp 0x2400) [] ∧
  decode [0b10001011] = .ok .adcE [] ∧ decode [0b11111110, 0x03] = .ok (.cpi 0x03) [] ∧
  decode [0b00101101] = .ok .dcrL [] ∧ decode [0b00011001] = .ok .dadD [] ∧
  decode [0b00001111] = .ok .rrc [] ∧ decode [0b11110101] = .ok .pushPsw [] ∧
  decode [0b11101010, 0x34, 0x12] = .ok (.jpe 0x1234) [] ∧ decode [0b11101111] = .ok .rst5 [] ∧
  decode [0b11010011, 0xFE] = .ok (.outPort 0xFE) [] ∧ decode [0b11001011] = .ok .undocumentedCB []

/-- When the bytes at PC decode to an instruction and STATUS is Running, a step is that instruction's meaning at that
state, and nothing else (R86). -/
def Obligations.StepRunsDecoded : Prop :=
  ∀ (s : State) (n : Nat) (i : Instr) (rest : List Byte),
    s.status = .running → decode (s.mem.bytesAt s.pc n) = .ok i rest → step s = exec i s

/-- The bytes a step reads for its instruction are exactly that instruction's bytes, at PC, PC+1, PC+2 modulo 65536, as
many as its opcode's length (R80, R82). -/
def Obligations.FetchReadsTheInstruction : Prop :=
  ∀ s : State, s.fetchBytes = encode s.fetchInstr ∧
    s.fetchBytes = ([s.pc, s.pc + 1, s.pc + 2].take (opcodeLength (s.mem.read s.pc))).map s.mem.read

/-- A word of the opcode table placed with `withFetchWord` is what the next step runs: the model's own placing, for the
host (a derived fact of the fetch rules). -/
def Obligations.PlacedWordRuns : Prop :=
  ∀ (s : State) (nbits w : Nat), ∃ i, decodeTableWord nbits w = some i ∧
    step (s.withFetchWord nbits w) = exec i (s.withFetchWord nbits w)

/-! ## State, memory, stack -/

/-- Reset: every field of R35 at the value of R34, for every SP_INIT, PC_INIT and MEM_INIT (R270). -/
def Obligations.ResetConstructsTheState : Prop :=
  ∀ (spInit pcInit : Word) (m : Memory),
    let r := State.resetWith spInit pcInit m
    (∀ q : Reg8, r.reg q = 0x00) ∧
    r.flags.z = false ∧ r.flags.s = false ∧ r.flags.p = false ∧ r.flags.cy = false ∧ r.flags.ac = false ∧
    r.inte = false ∧ r.sp = spInit ∧ r.pc = pcInit ∧ r.status = .running ∧ ∀ x : Word, r.mem.read x = m.read x

/-- The model's own reset choices: `State.reset` takes SP_INIT, PC_INIT and MEM_INIT of log entries 1, 2 and 3, and the
model's two fields start at 0 and empty (log entries 4, 5). None of these values is the spec's. -/
def Obligations.ResetChoicesOfTheModel : Prop :=
  State.reset = State.resetWith 0x2400 0x0000 [] ∧ (∀ x : Word, State.reset.mem.read x = 0x00) ∧
  ∀ (spInit pcInit : Word) (m : Memory),
    (State.resetWith spInit pcInit m).draws = 0 ∧ (State.resetWith spInit pcInit m).io = []

/-- Register pairs are views of the byte registers: the first-named register is the high byte; writing a pair writes the
two bytes; writing one byte leaves the other as it was (R22, R23). -/
def Obligations.PairsAreViews : Prop :=
  ∀ (s : State) (v : Word) (x : Byte),
    s.bc.toNat = s.b.toNat * 256 + s.c.toNat ∧ s.de.toNat = s.d.toNat * 256 + s.e.toNat ∧
    s.hl.toNat = s.h.toNat * 256 + s.l.toNat ∧
    ((s.setBC v).b.toNat = v.toNat / 256 ∧ (s.setBC v).c.toNat = v.toNat % 256 ∧ (s.setBC v).bc = v) ∧
    ((s.setDE v).d.toNat = v.toNat / 256 ∧ (s.setDE v).e.toNat = v.toNat % 256 ∧ (s.setDE v).de = v) ∧
    ((s.setHL v).h.toNat = v.toNat / 256 ∧ (s.setHL v).l.toNat = v.toNat % 256 ∧ (s.setHL v).hl = v) ∧
    (s.setReg .c x).bc.toNat = s.b.toNat * 256 + x.toNat ∧ (s.setReg .b x).bc.toNat = x.toNat * 256 + s.c.toNat ∧
    (s.setReg .e x).de.toNat = s.d.toNat * 256 + x.toNat ∧ (s.setReg .d x).de.toNat = x.toNat * 256 + s.e.toNat ∧
    (s.setReg .l x).hl.toNat = s.h.toNat * 256 + x.toNat ∧ (s.setReg .h x).hl.toNat = x.toNat * 256 + s.l.toNat

/-- Word accesses are little-endian and the second byte's address wraps (R54, R55): a word written reads back whole and
byte by byte, and every other byte is unchanged. -/
def Obligations.WordAccessIsLittleEndian : Prop :=
  ∀ (m : Memory) (addr v : Word),
    (m.readWord addr).toNat = (m.read (addr + 1)).toNat * 256 + (m.read addr).toNat ∧
    (m.writeWord addr v).readWord addr = v ∧
    ((m.writeWord addr v).read addr).toNat = v.toNat % 256 ∧
    ((m.writeWord addr v).read (addr + 1)).toNat = v.toNat / 256 ∧
    ∀ x, x ≠ addr → x ≠ addr + 1 → (m.writeWord addr v).read x = m.read x

/-- Two memories in the canonical form that read alike everywhere are equal data (a derived fact of the model's memory:
one form for each content of R50). -/
def Obligations.CanonicalMemoryIsItsContent : Prop :=
  ∀ m n : Memory, m.wf → n.wf → (∀ x : Word, m.read x = n.read x) → m = n

/-- The loader's bytes read back, and no other byte changes (R72), for any image that does not wrap onto itself. -/
def Obligations.LoaderPlacesTheImage : Prop :=
  ∀ (m : Memory) (addr : Word) (image : List Byte), image.length ≤ 65536 →
    ∀ x : Word, (m.load addr image).read x =
      if h : (x - addr).toNat < image.length then image[(x - addr).toNat] else m.read x

/-- Push16 followed by Pop16 returns the word and leaves SP where it was, for every SP; the stack grows downward; the word
lies at the new SP (R62). -/
def Obligations.PopOfPush : Prop :=
  ∀ (s : State) (v : Word),
    (s.push16 v).top16 = v ∧ (s.push16 v).drop16.sp = s.sp ∧ (s.push16 v).sp = s.sp - 2 ∧
    (s.push16 v).mem.readWord (s.push16 v).sp = v ∧ Pushes s (s.push16 v) (hiByte v) (loByte v)

/-- PUSH rp immediately followed by POP rp restores rp and SP, for BC, DE, HL and the PSW, and the two stack bytes stay
written (95_test_vectors.md S-3): the high byte at SP-1, the low byte at SP-2, every other byte as before. -/
def Obligations.PushThenPopRestores : Prop :=
  ∀ (i j : Instr) (p : Rps) (s t u : State), i.form = .push p → j.form = .pop p →
    exec i s = .next t → exec j t = .next u →
    u = { s with mem := u.mem, pc := s.pc + 2 } ∧
    StoresTwo s u (s.sp - 1) (pairBytes s p).1 (s.sp - 2) (pairBytes s p).2

/-! ## The flag generator -/

/-- Z, S and P of every byte (R25, R111): zero, bit 7, an even number of 1 bits; CY and AC are not touched. -/
def Obligations.FlagGenerator : Prop :=
  ∀ (f : Flags) (v : Byte), f.szp v = flagsOf v f.cy f.ac

/-! ## Data movement -/

/-- MOV r1,r2 (R200). -/
def Obligations.MovRegisterRegister : Prop :=
  ∀ (i : Instr) (dst src : Reg8) (s : State), i.form = .movRR dst src →
    encode i = [0b01#2 ++ dst.code ++ src.code] ∧
    exec i s = .next { s.setReg dst (s.reg src) with pc := s.pc + 1 }

/-- MOV r,M (R201), LDA (R207), LDAX (R211): a register receives a byte of memory. -/
def Obligations.ByteLoads : Prop :=
  (∀ (i : Instr) (dst : Reg8) (s : State), i.form = .movRM dst →
    encode i = [0b01#2 ++ dst.code ++ 0b110#3] ∧
    exec i s = .next { s.setReg dst (s.mem.read (word s.h s.l)) with pc := s.pc + 1 }) ∧
  (∀ (addr : Word) (s : State),
    encode (.lda addr) = [0x3A, loByte addr, hiByte addr] ∧
    exec (.lda addr) s = .next { s with a := s.mem.read addr, pc := s.pc + 3 }) ∧
  (∀ s : State, encode .ldaxB = [0x0A] ∧
    exec .ldaxB s = .next { s with a := s.mem.read (word s.b s.c), pc := s.pc + 1 }) ∧
  (∀ s : State, encode .ldaxD = [0x1A] ∧
    exec .ldaxD s = .next { s with a := s.mem.read (word s.d s.e), pc := s.pc + 1 })

/-- MOV M,r (R202), MVI M (R204), STA (R208), STAX (R212): one byte of memory receives a register or the immediate. -/
def Obligations.ByteStores : Prop :=
  (∀ (i : Instr) (src : Reg8) (s : State), i.form = .movMR src →
    encode i = [0b01#2 ++ 0b110#3 ++ src.code] ∧
    ∃ t, exec i s = .next t ∧ StoresByte s t (word s.h s.l) (s.reg src) ∧
      t = { s with mem := t.mem, pc := s.pc + 1 }) ∧
  (∀ (imm : Byte) (s : State), encode (.mviM imm) = [0x36, imm] ∧
    ∃ t, exec (.mviM imm) s = .next t ∧ StoresByte s t (word s.h s.l) imm ∧
      t = { s with mem := t.mem, pc := s.pc + 2 }) ∧
  (∀ (addr : Word) (s : State), encode (.sta addr) = [0x32, loByte addr, hiByte addr] ∧
    ∃ t, exec (.sta addr) s = .next t ∧ StoresByte s t addr s.a ∧ t = { s with mem := t.mem, pc := s.pc + 3 }) ∧
  (∀ s : State, encode .staxB = [0x02] ∧
    ∃ t, exec .staxB s = .next t ∧ StoresByte s t (word s.b s.c) s.a ∧ t = { s with mem := t.mem, pc := s.pc + 1 }) ∧
  (∀ s : State, encode .staxD = [0x12] ∧
    ∃ t, exec .staxD s = .next t ∧ StoresByte s t (word s.d s.e) s.a ∧ t = { s with mem := t.mem, pc := s.pc + 1 })

/-- MVI r (R203), LXI rp (R205). -/
def Obligations.ImmediateLoads : Prop :=
  (∀ (i : Instr) (dst : Reg8) (imm : Byte) (s : State), i.form = .mvi dst imm →
    encode i = [0b00#2 ++ dst.code ++ 0b110#3, imm] ∧ exec i s = .next { s.setReg dst imm with pc := s.pc + 2 }) ∧
  (∀ (imm : Word) (s : State),
    encode (.lxiB imm) = [0x01, loByte imm, hiByte imm] ∧
    exec (.lxiB imm) s = .next { s with b := hiByte imm, c := loByte imm, pc := s.pc + 3 } ∧
    encode (.lxiD imm) = [0x11, loByte imm, hiByte imm] ∧
    exec (.lxiD imm) s = .next { s with d := hiByte imm, e := loByte imm, pc := s.pc + 3 } ∧
    encode (.lxiH imm) = [0x21, loByte imm, hiByte imm] ∧
    exec (.lxiH imm) s = .next { s with h := hiByte imm, l := loByte imm, pc := s.pc + 3 } ∧
    encode (.lxiSp imm) = [0x31, loByte imm, hiByte imm] ∧
    exec (.lxiSp imm) s = .next { s with sp := imm, pc := s.pc + 3 })

/-- LHLD (R209), SHLD (R210): L at the address, H at the next one, which wraps. -/
def Obligations.HLDirect : Prop :=
  ∀ (addr : Word) (s : State),
    encode (.lhld addr) = [0x2A, loByte addr, hiByte addr] ∧
    exec (.lhld addr) s =
      .next { s with l := s.mem.read addr, h := s.mem.read (addr + 1), pc := s.pc + 3 } ∧
    encode (.shld addr) = [0x22, loByte addr, hiByte addr] ∧
    ∃ t, exec (.shld addr) s = .next t ∧ StoresTwo s t addr s.l (addr + 1) s.h ∧
      t = { s with mem := t.mem, pc := s.pc + 3 }

/-- XCHG (R213), SPHL (R165). -/
def Obligations.ExchangeAndSphl : Prop :=
  ∀ s : State,
    encode .xchg = [0xEB] ∧
    exec .xchg s = .next { s with h := s.d, l := s.e, d := s.h, e := s.l, pc := s.pc + 1 } ∧
    encode .sphl = [0xF9] ∧ exec .sphl s = .next { s with sp := word s.h s.l, pc := s.pc + 1 }

/-! ## Arithmetic and logic -/

/-- ADD r, ADD M, ADI (R112, R113, R114). -/
def Obligations.AddInstructions : Prop :=
  ∀ (i : Instr) (src : AluSource) (s : State), i.form = src.form .add →
    encode i = src.code 0b000 ∧
    exec i s = .next { s with
      a := s.a + src.value s
      flags := flagsOf (s.a + src.value s) (decide (0xFF < s.a.toNat + (src.value s).toNat)) s.flags.ac
      pc := s.pc + src.length }

/-- ADC r, ADC M, ACI (R115, R116, R117). -/
def Obligations.AdcInstructions : Prop :=
  ∀ (i : Instr) (src : AluSource) (s : State), i.form = src.form .adc →
    encode i = src.code 0b001 ∧
    exec i s = .next { s with
      a := s.a + src.value s + carryByte s.flags.cy
      flags := flagsOf (s.a + src.value s + carryByte s.flags.cy)
        (decide (0xFF < s.a.toNat + (src.value s).toNat + s.flags.cy.toNat)) s.flags.ac
      pc := s.pc + src.length }

/-- SUB r, SUB M, SUI (R118, R119, R120): CY is the borrow. -/
def Obligations.SubInstructions : Prop :=
  ∀ (i : Instr) (src : AluSource) (s : State), i.form = src.form .sub →
    encode i = src.code 0b010 ∧
    exec i s = .next { s with
      a := s.a - src.value s
      flags := flagsOf (s.a - src.value s) (decide (s.a.toNat < (src.value s).toNat)) s.flags.ac
      pc := s.pc + src.length }

/-- SBB r, SBB M, SBI (R121, R122, R123): CY is the incoming and the outgoing borrow. -/
def Obligations.SbbInstructions : Prop :=
  ∀ (i : Instr) (src : AluSource) (s : State), i.form = src.form .sbb →
    encode i = src.code 0b011 ∧
    exec i s = .next { s with
      a := s.a - src.value s - carryByte s.flags.cy
      flags := flagsOf (s.a - src.value s - carryByte s.flags.cy)
        (decide (s.a.toNat < (src.value s).toNat + s.flags.cy.toNat)) s.flags.ac
      pc := s.pc + src.length }

/-- ANA, ANI (R124-R126), XRA, XRI (R127-R129), ORA, ORI (R130-R132): CY is forced false (R146). -/
def Obligations.LogicInstructions : Prop :=
  ∀ (i : Instr) (src : AluSource) (s : State),
    (i.form = src.form .ana →
      encode i = src.code 0b100 ∧
      exec i s = .next { s with
        a := s.a &&& src.value s
        flags := flagsOf (s.a &&& src.value s) false s.flags.ac
        pc := s.pc + src.length }) ∧
    (i.form = src.form .xra →
      encode i = src.code 0b101 ∧
      exec i s = .next { s with
        a := s.a ^^^ src.value s
        flags := flagsOf (s.a ^^^ src.value s) false s.flags.ac
        pc := s.pc + src.length }) ∧
    (i.form = src.form .ora →
      encode i = src.code 0b110 ∧
      exec i s = .next { s with
        a := s.a ||| src.value s
        flags := flagsOf (s.a ||| src.value s) false s.flags.ac
        pc := s.pc + src.length })

/-- CMP r, CMP M, CPI (R133, R134, R135): the flags of the difference, Z exactly when equal, and no register written. -/
def Obligations.CompareInstructions : Prop :=
  ∀ (i : Instr) (src : AluSource) (s : State), i.form = src.form .cmp →
    encode i = src.code 0b111 ∧
    ∃ t, exec i s = .next t ∧
      t = { s with
        flags := flagsOf (s.a - src.value s) (decide (s.a.toNat < (src.value s).toNat)) s.flags.ac
        pc := s.pc + src.length } ∧
      (t.flags.z = true ↔ s.a = src.value s)

/-- INR r, DCR r (R136, R138): Z, S and P of the new value; CY unchanged. -/
def Obligations.IncDecRegister : Prop :=
  ∀ (i : Instr) (r : Reg8) (s : State),
    (i.form = .inr r →
      encode i = [0b00#2 ++ r.code ++ 0b100#3] ∧
      exec i s = .next { s.setReg r (s.reg r + 1) with
        flags := flagsOf (s.reg r + 1) s.flags.cy s.flags.ac, pc := s.pc + 1 }) ∧
    (i.form = .dcr r →
      encode i = [0b00#2 ++ r.code ++ 0b101#3] ∧
      exec i s = .next { s.setReg r (s.reg r - 1) with
        flags := flagsOf (s.reg r - 1) s.flags.cy s.flags.ac, pc := s.pc + 1 })

/-- INR M, DCR M (R137, R139): the byte at HL is read and written; CY unchanged. -/
def Obligations.IncDecMemory : Prop :=
  ∀ s : State,
    let v := s.mem.read (word s.h s.l)
    (encode .inrM = [0x34] ∧
      ∃ t, exec .inrM s = .next t ∧ StoresByte s t (word s.h s.l) (v + 1) ∧
        t = { s with mem := t.mem, flags := flagsOf (v + 1) s.flags.cy s.flags.ac, pc := s.pc + 1 }) ∧
    (encode .dcrM = [0x35] ∧
      ∃ t, exec .dcrM s = .next t ∧ StoresByte s t (word s.h s.l) (v - 1) ∧
        t = { s with mem := t.mem, flags := flagsOf (v - 1) s.flags.cy s.flags.ac, pc := s.pc + 1 })

/-- INX rp, DCX rp (R140, R141): the pair or SP one more or one less modulo 65536; no flag. -/
def Obligations.IncDecPair : Prop :=
  ∀ (i : Instr) (p : Rp) (s : State),
    (i.form = .inx p →
      encode i = [0b00#2 ++ p.code ++ 0b0011#4] ∧
      ∃ t, exec i s = .next t ∧ (t.rp p).toNat = ((s.rp p).toNat + 1) % 65536 ∧
        t = { s.setRp p (t.rp p) with pc := s.pc + 1 }) ∧
    (i.form = .dcx p →
      encode i = [0b00#2 ++ p.code ++ 0b1011#4] ∧
      ∃ t, exec i s = .next t ∧ (t.rp p).toNat = ((s.rp p).toNat + 65535) % 65536 ∧
        t = { s.setRp p (t.rp p) with pc := s.pc + 1 })

/-- DAD rp (R142): HL receives the sum modulo 65536, CY whether it exceeds 0xFFFF; Z, S and P are left. -/
def Obligations.DoubleAdd : Prop :=
  ∀ (i : Instr) (p : Rp) (s : State), i.form = .dad p →
    encode i = [0b00#2 ++ p.code ++ 0b1001#4] ∧
    ∃ t, exec i s = .next t ∧
      t.h.toNat * 256 + t.l.toNat = (s.h.toNat * 256 + s.l.toNat + (s.rp p).toNat) % 65536 ∧
      t = { s with
        h := t.h, l := t.l
        flags := { s.flags with cy := decide (0xFFFF < s.h.toNat * 256 + s.l.toNat + (s.rp p).toNat) }
        pc := s.pc + 1 }

/-! ## Rotates and carry -/

/-- RLC, RRC (R190, R191): A rotated by one bit, CY the bit that wrapped around. RAL, RAR (R192, R193): CY takes part as
the ninth bit. No other flag. -/
def Obligations.Rotates : Prop :=
  ∀ s : State,
    encode .rlc = [0x07] ∧
    exec .rlc s = .next { s with
      a := s.a.rotateLeft 1, flags := { s.flags with cy := s.a.getLsbD 7 }, pc := s.pc + 1 } ∧
    encode .rrc = [0x0F] ∧
    exec .rrc s = .next { s with
      a := s.a.rotateRight 1, flags := { s.flags with cy := s.a.getLsbD 0 }, pc := s.pc + 1 } ∧
    encode .ral = [0x17] ∧
    exec .ral s = .next { s with
      a := (s.a <<< 1) ||| carryByte s.flags.cy, flags := { s.flags with cy := s.a.getLsbD 7 }, pc := s.pc + 1 } ∧
    encode .rar = [0x1F] ∧
    exec .rar s = .next { s with
      a := (s.a >>> 1) ||| (carryByte s.flags.cy <<< 7), flags := { s.flags with cy := s.a.getLsbD 0 }
      pc := s.pc + 1 }

/-- STC, CMC, CMA (R194, R195, R196). -/
def Obligations.CarryAndComplement : Prop :=
  ∀ s : State,
    encode .stc = [0x37] ∧ exec .stc s = .next { s with flags := { s.flags with cy := true }, pc := s.pc + 1 } ∧
    encode .cmc = [0x3F] ∧
    exec .cmc s = .next { s with flags := { s.flags with cy := !s.flags.cy }, pc := s.pc + 1 } ∧
    encode .cma = [0x2F] ∧ exec .cma s = .next { s with a := ~~~s.a, pc := s.pc + 1 }

/-! ## Stack -/

/-- PUSH rp (R160) and PUSH PSW (R161): the high byte at SP-1, the low byte at SP-2, SP 2 less, every other byte and
register unchanged. The PSW's low byte is the packed flag byte of R28. -/
def Obligations.PushInstructions : Prop :=
  ∀ (i : Instr) (p : Rps) (s : State), i.form = .push p →
    encode i = [0b11#2 ++ p.code ++ 0b0101#4] ∧
    ∃ t, exec i s = .next t ∧ Pushes s t (pairBytes s p).1 (pairBytes s p).2 ∧
      t = { s with sp := t.sp, mem := t.mem, pc := s.pc + 1 }

/-- PUSH PSW (R161) in every state that meets the invariant, where AC is false: A at SP-1, and at SP-2 a flag byte with
bit 1 set, bits 3, 4 and 5 clear, and CY, P, Z and S in bits 0, 2, 6 and 7; SP 2 less, nothing else changed. -/
def Obligations.PushedFlagByte : Prop :=
  ∀ s : State, Inv s →
    encode .pushPsw = [0b11110101] ∧
    ∃ t f, exec .pushPsw s = .next t ∧ Pushes s t s.a f ∧ t = { s with sp := t.sp, mem := t.mem, pc := s.pc + 1 } ∧
      f.getLsbD 0 = s.flags.cy ∧ f.getLsbD 1 = true ∧ f.getLsbD 2 = s.flags.p ∧ f.getLsbD 3 = false ∧
      f.getLsbD 4 = false ∧ f.getLsbD 5 = false ∧ f.getLsbD 6 = s.flags.z ∧ f.getLsbD 7 = s.flags.s

/-- POP rp (R162) and POP PSW (R163): the low byte from SP, the high byte from SP+1, SP 2 more; POP PSW loads CY, P, Z
and S from bits 0, 2, 6 and 7 and leaves AC. -/
def Obligations.PopInstructions : Prop :=
  ∀ (i : Instr) (p : Rps) (s : State), i.form = .pop p →
    encode i = [0b11#2 ++ p.code ++ 0b0001#4] ∧
    exec i s = .next (
      let lo := s.mem.read s.sp
      let hi := s.mem.read (s.sp + 1)
      match p with
      | .bc => { s with c := lo, b := hi, sp := s.sp + 2, pc := s.pc + 1 }
      | .de => { s with e := lo, d := hi, sp := s.sp + 2, pc := s.pc + 1 }
      | .hl => { s with l := lo, h := hi, sp := s.sp + 2, pc := s.pc + 1 }
      | .psw => { s with
          a := hi
          flags := ⟨lo.getLsbD 6, lo.getLsbD 7, lo.getLsbD 2, lo.getLsbD 0, s.flags.ac⟩
          sp := s.sp + 2
          pc := s.pc + 1 })

/-- XTHL (R164): L with the byte at SP, H with the byte at SP+1; SP unchanged. -/
def Obligations.ExchangeStackTop : Prop :=
  ∀ s : State, encode .xthl = [0xE3] ∧
    ∃ t, exec .xthl s = .next t ∧ StoresTwo s t s.sp s.l (s.sp + 1) s.h ∧
      t = { s with l := s.mem.read s.sp, h := s.mem.read (s.sp + 1), mem := t.mem, pc := s.pc + 1 }

/-! ## Control transfer -/

/-- JMP (R166), PCHL (R174): PC is the target and nothing else changes. -/
def Obligations.Jumps : Prop :=
  ∀ (addr : Word) (s : State),
    encode (.jmp addr) = [0xC3, loByte addr, hiByte addr] ∧ exec (.jmp addr) s = .next { s with pc := addr } ∧
    encode .pchl = [0xE9] ∧ exec .pchl s = .next { s with pc := word s.h s.l }

/-- The eight conditions (R90, R173), with their codes. -/
def Obligations.Conditions : Prop :=
  ∀ f : Flags,
    (Cond.nz.code = 0b000 ∧ f.cond .nz = !f.z) ∧ (Cond.z.code = 0b001 ∧ f.cond .z = f.z) ∧
    (Cond.nc.code = 0b010 ∧ f.cond .nc = !f.cy) ∧ (Cond.c.code = 0b011 ∧ f.cond .c = f.cy) ∧
    (Cond.po.code = 0b100 ∧ f.cond .po = !f.p) ∧ (Cond.pe.code = 0b101 ∧ f.cond .pe = f.p) ∧
    (Cond.p.code = 0b110 ∧ f.cond .p = !f.s) ∧ (Cond.m.code = 0b111 ∧ f.cond .m = f.s)

/-- Jcc (R167): taken, PC is the address; not taken, PC is past the three bytes. -/
def Obligations.ConditionalJumps : Prop :=
  ∀ (i : Instr) (cc : Cond) (addr : Word) (s : State), i.form = .jcc cc addr →
    encode i = [0b11#2 ++ cc.code ++ 0b010#3, loByte addr, hiByte addr] ∧
    exec i s = .next { s with pc := if s.flags.cond cc then addr else s.pc + 3 }

/-- CALL (R168) and Ccc (R169): the address after the three bytes is pushed and PC is the target; a Ccc whose condition is
false only goes on. -/
def Obligations.Calls : Prop :=
  (∀ (addr : Word) (s : State), encode (.call addr) = [0xCD, loByte addr, hiByte addr] ∧
    ∃ t, exec (.call addr) s = .next t ∧ Pushes s t (hiByte (s.pc + 3)) (loByte (s.pc + 3)) ∧
      t = { s with sp := t.sp, mem := t.mem, pc := addr }) ∧
  (∀ (i : Instr) (cc : Cond) (addr : Word) (s : State), i.form = .ccc cc addr →
    encode i = [0b11#2 ++ cc.code ++ 0b100#3, loByte addr, hiByte addr] ∧
    (s.flags.cond cc = false → exec i s = .next { s with pc := s.pc + 3 }) ∧
    (s.flags.cond cc = true →
      ∃ t, exec i s = .next t ∧ Pushes s t (hiByte (s.pc + 3)) (loByte (s.pc + 3)) ∧
        t = { s with sp := t.sp, mem := t.mem, pc := addr }))

/-- RET (R170) and Rcc (R171): PC is the popped word, the low byte at SP; a Rcc whose condition is false leaves SP and
goes on at the next byte, with no stack read. -/
def Obligations.Returns : Prop :=
  (∀ s : State, encode .ret = [0xC9] ∧
    exec .ret s = .next { s with pc := word (s.mem.read (s.sp + 1)) (s.mem.read s.sp), sp := s.sp + 2 }) ∧
  (∀ (i : Instr) (cc : Cond) (s : State), i.form = .rcc cc →
    encode i = [0b11#2 ++ cc.code ++ 0b000#3] ∧
    exec i s = .next (
      if s.flags.cond cc then
        { s with pc := word (s.mem.read (s.sp + 1)) (s.mem.read s.sp), sp := s.sp + 2 }
      else { s with pc := s.pc + 1 }) ∧
    (s.flags.cond cc = false → s.formAccesses i.form = []))

/-- RST n (R172): the address after the one byte is pushed and PC is n times 8. -/
def Obligations.Restarts : Prop :=
  ∀ (i : Instr) (n : BitVec 3) (s : State), i.form = .rst n →
    encode i = [0b11#2 ++ n ++ 0b111#3] ∧
    ∃ t, exec i s = .next t ∧ Pushes s t (hiByte (s.pc + 1)) (loByte (s.pc + 1)) ∧
      t.pc.toNat = n.toNat * 8 ∧ t = { s with sp := t.sp, mem := t.mem, pc := t.pc }

/-! ## Machine control and exceptions -/

/-- IN (R221): A receives the byte IoIn delivers for the port, whatever it is. OUT (R222): the event IoOut(port, A) is
presented, the last of the model's record (log entry 5), and nothing else but PC changes. -/
def Obligations.InputAndOutput : Prop :=
  ∀ (port : Byte) (s : State),
    (encode (.inPort port) = [0xDB, port] ∧
      ∃ t, exec (.inPort port) s = .next t ∧
        t = { s with a := s.ioIn port, pc := s.pc + 2, draws := t.draws, io := t.io }) ∧
    encode (.outPort port) = [0xD3, port] ∧
    exec (.outPort port) s = .next { s with pc := s.pc + 2, io := s.io ++ [.output port s.a] }

/-- The model's own account of IN: the byte is the free value `Config.ioIn` at the number of the draw, the number goes up
by one, and the exchange is recorded (log entries 4, 5). It holds whatever that value is. -/
def Obligations.InputIsDrawnAndRecorded : Prop :=
  ∀ (port : Byte) (s : State),
    exec (.inPort port) s = .next { s with
      a := Config.ioIn s.draws port, pc := s.pc + 2
      draws := s.draws + 1, io := s.io ++ [.input port (Config.ioIn s.draws port)] }

/-- EI, DI, NOP, HLT (R223, R224, R225, R226); the step after a HLT changes nothing. -/
def Obligations.ControlInstructions : Prop :=
  ∀ s : State,
    encode .ei = [0xFB] ∧ exec .ei s = .next { s with inte := true, pc := s.pc + 1 } ∧
    encode .di = [0xF3] ∧ exec .di s = .next { s with inte := false, pc := s.pc + 1 } ∧
    encode .nop = [0x00] ∧ exec .nop s = .next { s with pc := s.pc + 1 } ∧
    encode .hlt = [0x76] ∧ exec .hlt s = .next { s with pc := s.pc + 1, status := .halted } ∧
    step { s with pc := s.pc + 1, status := .halted } = .next { s with pc := s.pc + 1, status := .halted }

/-- UnimplementedOpcode (R240, R246): the twelve undocumented opcodes (R230) and DAA (R143) make STATUS Faulted with the
opcode byte and its address, no other field changes, and the step's only access is the opcode byte; no other instruction is
one of the thirteen (R93). -/
def Obligations.UnimplementedOpcodes : Prop :=
  ∀ (i : Instr) (op : Byte), (encode i).head? = some op →
    (isUnimplemented i.form = true ↔
      op ∈ ([0x08, 0x10, 0x18, 0x20, 0x27, 0x28, 0x30, 0x38, 0xCB, 0xD9, 0xDD, 0xED, 0xFD] : List Byte)) ∧
    (isUnimplemented i.form = true →
      encode i = [op] ∧
      ∀ s : State, exec i s = .next { s with status := .faulted op s.pc } ∧
        (s.status = .running → s.fetchInstr = i → s.accesses = [.fetch s.pc op]))

/-! ## Rules over every instruction -/

/-- PC after an instruction (R81, R176): the target where the rule writes one, else past the instruction's bytes; a fault
leaves PC at the opcode, and a step taken when STATUS is not Running leaves it. -/
def Obligations.ProgramCounterRule : Prop :=
  (∀ (i : Instr) (s t : State), exec i s = .next t →
    t.pc = if isUnimplemented i.form then s.pc else (target s i.form).getD (s.pc + BitVec.ofNat 16 i.length)) ∧
  ∀ s t : State, s.status ≠ .running → step s = .next t → t.pc = s.pc

/-- A byte register changes only by an instruction that R21 lists for it. -/
def Obligations.RegisterWriters : Prop :=
  ∀ (i : Instr) (s t : State) (r : Reg8), exec i s = .next t → r ∉ writtenRegs i.form → t.reg r = s.reg r

/-- A flag changes only by an instruction that R26 lists for it, and AC by none. -/
def Obligations.FlagWriters : Prop :=
  ∀ (i : Instr) (s t : State), exec i s = .next t →
    (writesZSP i.form = false → t.flags.z = s.flags.z ∧ t.flags.s = s.flags.s ∧ t.flags.p = s.flags.p) ∧
    (writesCY i.form = false → t.flags.cy = s.flags.cy) ∧ t.flags.ac = s.flags.ac

/-- SP, INTE, STATUS and the two fields of the I/O interface change only by their own instructions (R29, R31, R32, R70). -/
def Obligations.ControlStateWriters : Prop :=
  ∀ (i : Instr) (s t : State), exec i s = .next t →
    (writesSP i.form = false → t.sp = s.sp) ∧
    (i ≠ .ei → i ≠ .di → t.inte = s.inte) ∧
    (i ≠ .hlt → isUnimplemented i.form = false → t.status = s.status) ∧
    ((∀ port, i ≠ .inPort port) → t.draws = s.draws) ∧
    ((∀ port, i ≠ .inPort port) → (∀ port, i ≠ .outPort port) → t.io = s.io)

/-- INTE (R32): EI sets it, DI clears it, and it gates nothing: an instruction other than EI and DI does the same whatever
INTE holds, and leaves it. -/
def Obligations.InteGatesNothing : Prop :=
  (∀ s : State, exec .ei s = .next { s with inte := true, pc := s.pc + 1 } ∧
    exec .di s = .next { s with inte := false, pc := s.pc + 1 }) ∧
  ∀ (i : Instr) (s t : State) (b : Bool), i ≠ .ei → i ≠ .di → exec i s = .next t →
    exec i { s with inte := b } = .next { t with inte := b }

/-- The recorded I/O events are never read: a step does the same after any past exchange, and only adds to it (derived
from R70: OUT changes nothing in the block). -/
def Obligations.IoRecordIsNeverRead : Prop :=
  ∀ (s t : State) (past : List IoEvent), step s = .next t →
    step { s with io := past ++ s.io } = .next { t with io := past ++ t.io }

/-- What a step did to memory and to the I/O interface is what its accesses say, in their order; and every byte it reads
is the byte memory held before the step (R71, R277). -/
def Obligations.AccessesAccountForTheStep : Prop :=
  ∀ s t : State, step s = .next t →
    t.mem = s.mem.replay s.accesses ∧ t.io = s.io ++ s.accesses.filterMap Access.ioEvent ∧
    (∀ addr v, .read addr v ∈ s.accesses ∨ .fetch addr v ∈ s.accesses → v = s.mem.read addr)

/-- Every step keeps the invariant: memory canonical, AC false (R27), the fault record true (R240). -/
def Obligations.StepKeepsInvariant : Prop :=
  ∀ s t : State, Inv s → step s = .next t → Inv t

/-- The state after reset meets the invariant, and so does reset with any image in the canonical form. -/
def Obligations.ResetMeetsInvariant : Prop :=
  Inv State.reset ∧ ∀ (spInit pcInit : Word) (m : Memory), m.wf → Inv (State.resetWith spInit pcInit m)

/-- A step taken when STATUS is Halted or Faulted changes nothing, and no access and no I/O action occurs, however many
steps are taken (R273). -/
def Obligations.EndedRunStays : Prop :=
  ∀ (s : State) (k : Nat), Ended s →
    step s = .next s ∧ s.accesses = [] ∧ Host.Core.run core k s = .next s

/-- Every step completes (R281): it answers a next state; and a run ends only at HLT or at an opcode with no handler
(R274). -/
def Obligations.EveryStepCompletes : Prop :=
  ∀ s : State, ∃ t, step s = .next t ∧
    (s.status = .running → EndedNormally t → s.fetchInstr = .hlt) ∧
    (s.status = .running → EndedInFault t → isUnimplemented s.fetchInstr.form = true)
end

