-- ==== Sys2Proof/Laws/Exec.lean ====
section
/-!
SUPPORT. What an instruction can do, said once: its meaning is the shared operation of its form. `exec_eq_execForm` is the
one case split over the 256 constructors; a proof about a family, or about every instruction, goes on from it by the forms.
-/

namespace Sys2Proof.Machine

/-- The shared operation of each form. -/
def execForm : Form → State → Result
  | .nop => noOperation
  | .hlt => halt
  | .ei => enableInterrupts
  | .di => disableInterrupts
  | .movRR dst src => moveRegister dst src
  | .movRM dst => moveFromM dst
  | .movMR src => moveToM src
  | .mvi dst imm => moveImmediate dst imm
  | .mviM imm => moveImmediateToM imm
  | .lxi p imm => loadPairImmediate p imm
  | .lda addr => loadDirect addr
  | .sta addr => storeDirect addr
  | .lhld addr => loadHLDirect addr
  | .shld addr => storeHLDirect addr
  | .ldax p => loadIndirect p
  | .stax p => storeIndirect p
  | .xchg => exchangeDEHL
  | .aluR op src => aluRegister op src
  | .aluM op => aluM op
  | .aluI op imm => aluImmediate op imm
  | .inr r => incrementRegister r
  | .inrM => incrementM
  | .dcr r => decrementRegister r
  | .dcrM => decrementM
  | .inx p => incrementPair p
  | .dcx p => decrementPair p
  | .dad p => doubleAdd p
  | .daa => unimplemented 0x27
  | .rlc => rotateLeft
  | .rrc => rotateRight
  | .ral => rotateLeftThroughCarry
  | .rar => rotateRightThroughCarry
  | .stc => setCarry
  | .cmc => complementCarry
  | .cma => complementA
  | .push p => pushPair p
  | .pop p => popPair p
  | .xthl => exchangeStackHL
  | .sphl => loadSPFromHL
  | .jmp addr => jumpTo addr
  | .jcc cc addr => jumpIf cc addr
  | .call addr => callTo addr
  | .ccc cc addr => callIf cc addr
  | .ret => returnAlways
  | .rcc cc => returnIf cc
  | .rst n => restart n
  | .pchl => jumpToHL
  | .inPort port => inputFrom port
  | .outPort port => outputTo port
  | .undocumented op => unimplemented op

/-- An instruction's meaning is its form's. -/
theorem exec_eq_execForm (i : Instr) (s : State) : exec i s = execForm i.form s := by
  cases i <;> rfl

end Sys2Proof.Machine
end

