-- ==== Sys2Proof/Laws/Memory.lean ====
section
/-!
SUPPORT. Memory: a byte read after a write, for every memory, canonical or not; and every operation keeps the canonical
form.
-/

namespace Sys2Proof.Machine

/-! ## Read after write -/

theorem Memory.lookup_erase (m : Memory) (n k : Nat) :
    (m.erase n).lookup k = if k = n then Config.unlistedByte else m.lookup k := by
  induction m with
  | nil => simp [Memory.erase, Memory.lookup]
  | cons c m ih =>
    simp only [Memory.erase, List.filter_cons] at ih ⊢
    by_cases h : c.1 = n
    · simp only [h, ne_eq, not_true_eq_false, decide_false, Bool.false_eq_true, if_false, ih]
      by_cases hk : k = n
      · simp [hk]
      · simp [Memory.lookup, hk, h, Ne.symm hk]
    · simp only [ne_eq, h, not_false_eq_true, decide_true, if_true, Memory.lookup, ih]
      by_cases hk : c.1 = k
      · simp [← hk, h]
      · simp [hk]

theorem Memory.lookup_insertAt (m : Memory) (n k : Nat) (v : Byte) (h : ∀ c ∈ m, c.1 ≠ n) :
    (m.insertAt n v).lookup k = if k = n then v else m.lookup k := by
  induction m with
  | nil => simp [Memory.insertAt, Memory.lookup, eq_comm]
  | cons c m ih =>
    unfold Memory.insertAt
    split
    · simp only [Memory.lookup, eq_comm]
    · have hc := h c (by simp)
      simp only [Memory.lookup, ih (fun d hd => h d (by simp [hd]))]
      by_cases hk : k = n
      · simp [hk, hc]
      · simp [hk]

theorem Memory.ne_of_mem_erase (m : Memory) (n : Nat) : ∀ c ∈ m.erase n, c.1 ≠ n := by
  intro c hc
  simpa using (List.mem_filter.1 hc).2

/-- A byte written reads back, and every other byte is unchanged, whatever the memory (R52, R53). -/
theorem Memory.read_write (m : Memory) (x y : Word) (v : Byte) :
    (m.write x v).read y = if y = x then v else m.read y := by
  have hxy : (y.toNat = x.toNat) ↔ y = x := BitVec.toNat_inj
  unfold Memory.write Memory.read
  split
  · next hv => simp [Memory.lookup_erase, hxy, hv]
  · rw [Memory.lookup_insertAt _ _ _ _ (Memory.ne_of_mem_erase m x.toNat), Memory.lookup_erase]
    by_cases h : y = x <;> simp [h, hxy]

@[simp] theorem Memory.read_write_same (m : Memory) (x : Word) (v : Byte) : (m.write x v).read x = v := by
  simp [Memory.read_write]

theorem Memory.read_write_ne (m : Memory) (x y : Word) (v : Byte) (h : y ≠ x) :
    (m.write x v).read y = m.read y := by
  simp [Memory.read_write, h]

/-! ## The canonical form -/

theorem Memory.wf_erase (m : Memory) (n : Nat) (h : m.wf) : (m.erase n).wf :=
  ⟨h.1.filter _, fun c hc => h.2 c (List.mem_filter.1 hc).1⟩

theorem Memory.mem_insertAt (m : Memory) (n : Nat) (v : Byte) (c : Host.Cell) (h : c ∈ m.insertAt n v) :
    c = (n, v) ∨ c ∈ m := by
  induction m with
  | nil => simpa [Memory.insertAt] using h
  | cons d m ih =>
    unfold Memory.insertAt at h
    split at h
    · simpa using h
    · rcases List.mem_cons.1 h with h | h
      · exact .inr (by simp [h])
      · rcases ih h with h | h
        · exact .inl h
        · exact .inr (by simp [h])

theorem Memory.pairwise_insertAt (m : Memory) (n : Nat) (v : Byte) (hm : m.Pairwise (fun x y => x.1 < y.1))
    (h : ∀ c ∈ m, c.1 ≠ n) : (m.insertAt n v).Pairwise (fun x y => x.1 < y.1) := by
  induction m with
  | nil => simp [Memory.insertAt]
  | cons d m ih =>
    obtain ⟨hd, hm'⟩ := List.pairwise_cons.1 hm
    unfold Memory.insertAt
    split
    · next hlt =>
      refine List.pairwise_cons.2 ⟨fun c hc => ?_, hm⟩
      rcases List.mem_cons.1 hc with rfl | hc
      · exact hlt
      · exact Nat.lt_trans hlt (hd c hc)
    · next hge =>
      refine List.pairwise_cons.2 ⟨fun c hc => ?_, ih hm' (fun c hc => h c (by simp [hc]))⟩
      rcases Memory.mem_insertAt m n v c hc with rfl | hc
      · have := h d (by simp)
        simp only
        omega
      · exact hd c hc

/-- A write keeps the canonical form. -/
theorem Memory.wf_write (m : Memory) (x : Word) (v : Byte) (h : m.wf) : (m.write x v).wf := by
  have he := Memory.wf_erase m x.toNat h
  unfold Memory.write
  split
  · exact he
  · next hv =>
    refine ⟨Memory.pairwise_insertAt _ _ _ he.1 (Memory.ne_of_mem_erase m _), fun c hc => ?_⟩
    rcases Memory.mem_insertAt _ _ _ c hc with rfl | hc
    · exact ⟨x.isLt, hv⟩
    · exact he.2 c hc

/-- A word write keeps the canonical form. -/
theorem Memory.wf_writeWord (m : Memory) (x v : Word) (h : m.wf) : (m.writeWord x v).wf :=
  Memory.wf_write _ _ _ (Memory.wf_write _ _ _ h)

/-- Loading bytes keeps the canonical form. -/
theorem Memory.wf_load (vs : List Byte) (m : Memory) (x : Word) (h : m.wf) : (m.load x vs).wf := by
  induction vs generalizing m x with
  | nil => exact h
  | cons v vs ih => exact ih _ _ (Memory.wf_write m x v h)

/-- The memory after reset is in the canonical form. -/
theorem State.reset_mem_wf : State.reset.mem.wf := ⟨List.Pairwise.nil, by simp [State.reset, State.resetWith]⟩

end Sys2Proof.Machine
end

