-- ==== Sys2Proof/Laws/State.lean ====
section
/-!
SUPPORT. The field lemmas of every update of State, so that no proof unfolds one: one per field per update, and for an
update by a register or pair name, how it is read back.
-/

namespace Sys2Proof.Machine

variable (s : State)

/-! ## setBC -/

@[simp] theorem State.setBC_a (v : Word) : (s.setBC v).a = s.a := rfl
@[simp] theorem State.setBC_b (v : Word) : (s.setBC v).b = hiByte v := rfl
@[simp] theorem State.setBC_c (v : Word) : (s.setBC v).c = loByte v := rfl
@[simp] theorem State.setBC_d (v : Word) : (s.setBC v).d = s.d := rfl
@[simp] theorem State.setBC_e (v : Word) : (s.setBC v).e = s.e := rfl
@[simp] theorem State.setBC_h (v : Word) : (s.setBC v).h = s.h := rfl
@[simp] theorem State.setBC_l (v : Word) : (s.setBC v).l = s.l := rfl
@[simp] theorem State.setBC_flags (v : Word) : (s.setBC v).flags = s.flags := rfl
@[simp] theorem State.setBC_sp (v : Word) : (s.setBC v).sp = s.sp := rfl
@[simp] theorem State.setBC_pc (v : Word) : (s.setBC v).pc = s.pc := rfl
@[simp] theorem State.setBC_inte (v : Word) : (s.setBC v).inte = s.inte := rfl
@[simp] theorem State.setBC_status (v : Word) : (s.setBC v).status = s.status := rfl
@[simp] theorem State.setBC_mem (v : Word) : (s.setBC v).mem = s.mem := rfl
@[simp] theorem State.setBC_draws (v : Word) : (s.setBC v).draws = s.draws := rfl
@[simp] theorem State.setBC_io (v : Word) : (s.setBC v).io = s.io := rfl

/-! ## setDE -/

@[simp] theorem State.setDE_a (v : Word) : (s.setDE v).a = s.a := rfl
@[simp] theorem State.setDE_b (v : Word) : (s.setDE v).b = s.b := rfl
@[simp] theorem State.setDE_c (v : Word) : (s.setDE v).c = s.c := rfl
@[simp] theorem State.setDE_d (v : Word) : (s.setDE v).d = hiByte v := rfl
@[simp] theorem State.setDE_e (v : Word) : (s.setDE v).e = loByte v := rfl
@[simp] theorem State.setDE_h (v : Word) : (s.setDE v).h = s.h := rfl
@[simp] theorem State.setDE_l (v : Word) : (s.setDE v).l = s.l := rfl
@[simp] theorem State.setDE_flags (v : Word) : (s.setDE v).flags = s.flags := rfl
@[simp] theorem State.setDE_sp (v : Word) : (s.setDE v).sp = s.sp := rfl
@[simp] theorem State.setDE_pc (v : Word) : (s.setDE v).pc = s.pc := rfl
@[simp] theorem State.setDE_inte (v : Word) : (s.setDE v).inte = s.inte := rfl
@[simp] theorem State.setDE_status (v : Word) : (s.setDE v).status = s.status := rfl
@[simp] theorem State.setDE_mem (v : Word) : (s.setDE v).mem = s.mem := rfl
@[simp] theorem State.setDE_draws (v : Word) : (s.setDE v).draws = s.draws := rfl
@[simp] theorem State.setDE_io (v : Word) : (s.setDE v).io = s.io := rfl

/-! ## setHL -/

@[simp] theorem State.setHL_a (v : Word) : (s.setHL v).a = s.a := rfl
@[simp] theorem State.setHL_b (v : Word) : (s.setHL v).b = s.b := rfl
@[simp] theorem State.setHL_c (v : Word) : (s.setHL v).c = s.c := rfl
@[simp] theorem State.setHL_d (v : Word) : (s.setHL v).d = s.d := rfl
@[simp] theorem State.setHL_e (v : Word) : (s.setHL v).e = s.e := rfl
@[simp] theorem State.setHL_h (v : Word) : (s.setHL v).h = hiByte v := rfl
@[simp] theorem State.setHL_l (v : Word) : (s.setHL v).l = loByte v := rfl
@[simp] theorem State.setHL_flags (v : Word) : (s.setHL v).flags = s.flags := rfl
@[simp] theorem State.setHL_sp (v : Word) : (s.setHL v).sp = s.sp := rfl
@[simp] theorem State.setHL_pc (v : Word) : (s.setHL v).pc = s.pc := rfl
@[simp] theorem State.setHL_inte (v : Word) : (s.setHL v).inte = s.inte := rfl
@[simp] theorem State.setHL_status (v : Word) : (s.setHL v).status = s.status := rfl
@[simp] theorem State.setHL_mem (v : Word) : (s.setHL v).mem = s.mem := rfl
@[simp] theorem State.setHL_draws (v : Word) : (s.setHL v).draws = s.draws := rfl
@[simp] theorem State.setHL_io (v : Word) : (s.setHL v).io = s.io := rfl

/-! ## advance -/

@[simp] theorem State.advance_a (n : Word) : (s.advance n).a = s.a := rfl
@[simp] theorem State.advance_b (n : Word) : (s.advance n).b = s.b := rfl
@[simp] theorem State.advance_c (n : Word) : (s.advance n).c = s.c := rfl
@[simp] theorem State.advance_d (n : Word) : (s.advance n).d = s.d := rfl
@[simp] theorem State.advance_e (n : Word) : (s.advance n).e = s.e := rfl
@[simp] theorem State.advance_h (n : Word) : (s.advance n).h = s.h := rfl
@[simp] theorem State.advance_l (n : Word) : (s.advance n).l = s.l := rfl
@[simp] theorem State.advance_flags (n : Word) : (s.advance n).flags = s.flags := rfl
@[simp] theorem State.advance_sp (n : Word) : (s.advance n).sp = s.sp := rfl
@[simp] theorem State.advance_pc (n : Word) : (s.advance n).pc = s.pc + n := rfl
@[simp] theorem State.advance_inte (n : Word) : (s.advance n).inte = s.inte := rfl
@[simp] theorem State.advance_status (n : Word) : (s.advance n).status = s.status := rfl
@[simp] theorem State.advance_mem (n : Word) : (s.advance n).mem = s.mem := rfl
@[simp] theorem State.advance_draws (n : Word) : (s.advance n).draws = s.draws := rfl
@[simp] theorem State.advance_io (n : Word) : (s.advance n).io = s.io := rfl

/-! ## jump -/

@[simp] theorem State.jump_a (t : Word) : (s.jump t).a = s.a := rfl
@[simp] theorem State.jump_b (t : Word) : (s.jump t).b = s.b := rfl
@[simp] theorem State.jump_c (t : Word) : (s.jump t).c = s.c := rfl
@[simp] theorem State.jump_d (t : Word) : (s.jump t).d = s.d := rfl
@[simp] theorem State.jump_e (t : Word) : (s.jump t).e = s.e := rfl
@[simp] theorem State.jump_h (t : Word) : (s.jump t).h = s.h := rfl
@[simp] theorem State.jump_l (t : Word) : (s.jump t).l = s.l := rfl
@[simp] theorem State.jump_flags (t : Word) : (s.jump t).flags = s.flags := rfl
@[simp] theorem State.jump_sp (t : Word) : (s.jump t).sp = s.sp := rfl
@[simp] theorem State.jump_pc (t : Word) : (s.jump t).pc = t := rfl
@[simp] theorem State.jump_inte (t : Word) : (s.jump t).inte = s.inte := rfl
@[simp] theorem State.jump_status (t : Word) : (s.jump t).status = s.status := rfl
@[simp] theorem State.jump_mem (t : Word) : (s.jump t).mem = s.mem := rfl
@[simp] theorem State.jump_draws (t : Word) : (s.jump t).draws = s.draws := rfl
@[simp] theorem State.jump_io (t : Word) : (s.jump t).io = s.io := rfl

/-! ## raiseUnimplemented -/

@[simp] theorem State.raiseUnimplemented_a (op : Byte) : (s.raiseUnimplemented op).a = s.a := rfl
@[simp] theorem State.raiseUnimplemented_b (op : Byte) : (s.raiseUnimplemented op).b = s.b := rfl
@[simp] theorem State.raiseUnimplemented_c (op : Byte) : (s.raiseUnimplemented op).c = s.c := rfl
@[simp] theorem State.raiseUnimplemented_d (op : Byte) : (s.raiseUnimplemented op).d = s.d := rfl
@[simp] theorem State.raiseUnimplemented_e (op : Byte) : (s.raiseUnimplemented op).e = s.e := rfl
@[simp] theorem State.raiseUnimplemented_h (op : Byte) : (s.raiseUnimplemented op).h = s.h := rfl
@[simp] theorem State.raiseUnimplemented_l (op : Byte) : (s.raiseUnimplemented op).l = s.l := rfl
@[simp] theorem State.raiseUnimplemented_flags (op : Byte) : (s.raiseUnimplemented op).flags = s.flags := rfl
@[simp] theorem State.raiseUnimplemented_sp (op : Byte) : (s.raiseUnimplemented op).sp = s.sp := rfl
@[simp] theorem State.raiseUnimplemented_pc (op : Byte) : (s.raiseUnimplemented op).pc = s.pc := rfl
@[simp] theorem State.raiseUnimplemented_inte (op : Byte) : (s.raiseUnimplemented op).inte = s.inte := rfl
@[simp] theorem State.raiseUnimplemented_status (op : Byte) :
    (s.raiseUnimplemented op).status = .faulted op s.pc := rfl
@[simp] theorem State.raiseUnimplemented_mem (op : Byte) : (s.raiseUnimplemented op).mem = s.mem := rfl
@[simp] theorem State.raiseUnimplemented_draws (op : Byte) : (s.raiseUnimplemented op).draws = s.draws := rfl
@[simp] theorem State.raiseUnimplemented_io (op : Byte) : (s.raiseUnimplemented op).io = s.io := rfl

/-! ## storeByte -/

@[simp] theorem State.storeByte_a (x : Word) (v : Byte) : (s.storeByte x v).a = s.a := rfl
@[simp] theorem State.storeByte_b (x : Word) (v : Byte) : (s.storeByte x v).b = s.b := rfl
@[simp] theorem State.storeByte_c (x : Word) (v : Byte) : (s.storeByte x v).c = s.c := rfl
@[simp] theorem State.storeByte_d (x : Word) (v : Byte) : (s.storeByte x v).d = s.d := rfl
@[simp] theorem State.storeByte_e (x : Word) (v : Byte) : (s.storeByte x v).e = s.e := rfl
@[simp] theorem State.storeByte_h (x : Word) (v : Byte) : (s.storeByte x v).h = s.h := rfl
@[simp] theorem State.storeByte_l (x : Word) (v : Byte) : (s.storeByte x v).l = s.l := rfl
@[simp] theorem State.storeByte_flags (x : Word) (v : Byte) : (s.storeByte x v).flags = s.flags := rfl
@[simp] theorem State.storeByte_sp (x : Word) (v : Byte) : (s.storeByte x v).sp = s.sp := rfl
@[simp] theorem State.storeByte_pc (x : Word) (v : Byte) : (s.storeByte x v).pc = s.pc := rfl
@[simp] theorem State.storeByte_inte (x : Word) (v : Byte) : (s.storeByte x v).inte = s.inte := rfl
@[simp] theorem State.storeByte_status (x : Word) (v : Byte) : (s.storeByte x v).status = s.status := rfl
@[simp] theorem State.storeByte_mem (x : Word) (v : Byte) : (s.storeByte x v).mem = s.mem.write x v := rfl
@[simp] theorem State.storeByte_draws (x : Word) (v : Byte) : (s.storeByte x v).draws = s.draws := rfl
@[simp] theorem State.storeByte_io (x : Word) (v : Byte) : (s.storeByte x v).io = s.io := rfl

/-! ## storeWord -/

@[simp] theorem State.storeWord_a (x v : Word) : (s.storeWord x v).a = s.a := rfl
@[simp] theorem State.storeWord_b (x v : Word) : (s.storeWord x v).b = s.b := rfl
@[simp] theorem State.storeWord_c (x v : Word) : (s.storeWord x v).c = s.c := rfl
@[simp] theorem State.storeWord_d (x v : Word) : (s.storeWord x v).d = s.d := rfl
@[simp] theorem State.storeWord_e (x v : Word) : (s.storeWord x v).e = s.e := rfl
@[simp] theorem State.storeWord_h (x v : Word) : (s.storeWord x v).h = s.h := rfl
@[simp] theorem State.storeWord_l (x v : Word) : (s.storeWord x v).l = s.l := rfl
@[simp] theorem State.storeWord_flags (x v : Word) : (s.storeWord x v).flags = s.flags := rfl
@[simp] theorem State.storeWord_sp (x v : Word) : (s.storeWord x v).sp = s.sp := rfl
@[simp] theorem State.storeWord_pc (x v : Word) : (s.storeWord x v).pc = s.pc := rfl
@[simp] theorem State.storeWord_inte (x v : Word) : (s.storeWord x v).inte = s.inte := rfl
@[simp] theorem State.storeWord_status (x v : Word) : (s.storeWord x v).status = s.status := rfl
@[simp] theorem State.storeWord_mem (x v : Word) : (s.storeWord x v).mem = s.mem.writeWord x v := rfl
@[simp] theorem State.storeWord_draws (x v : Word) : (s.storeWord x v).draws = s.draws := rfl
@[simp] theorem State.storeWord_io (x v : Word) : (s.storeWord x v).io = s.io := rfl

/-! ## loadBytes -/

@[simp] theorem State.loadBytes_a (x : Word) (vs : List Byte) : (s.loadBytes x vs).a = s.a := rfl
@[simp] theorem State.loadBytes_b (x : Word) (vs : List Byte) : (s.loadBytes x vs).b = s.b := rfl
@[simp] theorem State.loadBytes_c (x : Word) (vs : List Byte) : (s.loadBytes x vs).c = s.c := rfl
@[simp] theorem State.loadBytes_d (x : Word) (vs : List Byte) : (s.loadBytes x vs).d = s.d := rfl
@[simp] theorem State.loadBytes_e (x : Word) (vs : List Byte) : (s.loadBytes x vs).e = s.e := rfl
@[simp] theorem State.loadBytes_h (x : Word) (vs : List Byte) : (s.loadBytes x vs).h = s.h := rfl
@[simp] theorem State.loadBytes_l (x : Word) (vs : List Byte) : (s.loadBytes x vs).l = s.l := rfl
@[simp] theorem State.loadBytes_flags (x : Word) (vs : List Byte) : (s.loadBytes x vs).flags = s.flags := rfl
@[simp] theorem State.loadBytes_sp (x : Word) (vs : List Byte) : (s.loadBytes x vs).sp = s.sp := rfl
@[simp] theorem State.loadBytes_pc (x : Word) (vs : List Byte) : (s.loadBytes x vs).pc = s.pc := rfl
@[simp] theorem State.loadBytes_inte (x : Word) (vs : List Byte) : (s.loadBytes x vs).inte = s.inte := rfl
@[simp] theorem State.loadBytes_status (x : Word) (vs : List Byte) : (s.loadBytes x vs).status = s.status := rfl
@[simp] theorem State.loadBytes_mem (x : Word) (vs : List Byte) : (s.loadBytes x vs).mem = s.mem.load x vs := rfl
@[simp] theorem State.loadBytes_draws (x : Word) (vs : List Byte) : (s.loadBytes x vs).draws = s.draws := rfl
@[simp] theorem State.loadBytes_io (x : Word) (vs : List Byte) : (s.loadBytes x vs).io = s.io := rfl

/-! ## push16 -/

@[simp] theorem State.push16_a (v : Word) : (s.push16 v).a = s.a := rfl
@[simp] theorem State.push16_b (v : Word) : (s.push16 v).b = s.b := rfl
@[simp] theorem State.push16_c (v : Word) : (s.push16 v).c = s.c := rfl
@[simp] theorem State.push16_d (v : Word) : (s.push16 v).d = s.d := rfl
@[simp] theorem State.push16_e (v : Word) : (s.push16 v).e = s.e := rfl
@[simp] theorem State.push16_h (v : Word) : (s.push16 v).h = s.h := rfl
@[simp] theorem State.push16_l (v : Word) : (s.push16 v).l = s.l := rfl
@[simp] theorem State.push16_flags (v : Word) : (s.push16 v).flags = s.flags := rfl
@[simp] theorem State.push16_sp (v : Word) : (s.push16 v).sp = s.sp - 2 := rfl
@[simp] theorem State.push16_pc (v : Word) : (s.push16 v).pc = s.pc := rfl
@[simp] theorem State.push16_inte (v : Word) : (s.push16 v).inte = s.inte := rfl
@[simp] theorem State.push16_status (v : Word) : (s.push16 v).status = s.status := rfl
@[simp] theorem State.push16_mem (v : Word) :
    (s.push16 v).mem = (s.mem.write (s.sp - 1) (hiByte v)).write (s.sp - 2) (loByte v) := rfl
@[simp] theorem State.push16_draws (v : Word) : (s.push16 v).draws = s.draws := rfl
@[simp] theorem State.push16_io (v : Word) : (s.push16 v).io = s.io := rfl

/-! ## drop16 -/

@[simp] theorem State.drop16_a : (s.drop16).a = s.a := rfl
@[simp] theorem State.drop16_b : (s.drop16).b = s.b := rfl
@[simp] theorem State.drop16_c : (s.drop16).c = s.c := rfl
@[simp] theorem State.drop16_d : (s.drop16).d = s.d := rfl
@[simp] theorem State.drop16_e : (s.drop16).e = s.e := rfl
@[simp] theorem State.drop16_h : (s.drop16).h = s.h := rfl
@[simp] theorem State.drop16_l : (s.drop16).l = s.l := rfl
@[simp] theorem State.drop16_flags : (s.drop16).flags = s.flags := rfl
@[simp] theorem State.drop16_sp : (s.drop16).sp = s.sp + 2 := rfl
@[simp] theorem State.drop16_pc : (s.drop16).pc = s.pc := rfl
@[simp] theorem State.drop16_inte : (s.drop16).inte = s.inte := rfl
@[simp] theorem State.drop16_status : (s.drop16).status = s.status := rfl
@[simp] theorem State.drop16_mem : (s.drop16).mem = s.mem := rfl
@[simp] theorem State.drop16_draws : (s.drop16).draws = s.draws := rfl
@[simp] theorem State.drop16_io : (s.drop16).io = s.io := rfl

/-! ## drawn -/

@[simp] theorem State.drawn_a (p : Byte) : (s.drawn p).a = s.a := rfl
@[simp] theorem State.drawn_b (p : Byte) : (s.drawn p).b = s.b := rfl
@[simp] theorem State.drawn_c (p : Byte) : (s.drawn p).c = s.c := rfl
@[simp] theorem State.drawn_d (p : Byte) : (s.drawn p).d = s.d := rfl
@[simp] theorem State.drawn_e (p : Byte) : (s.drawn p).e = s.e := rfl
@[simp] theorem State.drawn_h (p : Byte) : (s.drawn p).h = s.h := rfl
@[simp] theorem State.drawn_l (p : Byte) : (s.drawn p).l = s.l := rfl
@[simp] theorem State.drawn_flags (p : Byte) : (s.drawn p).flags = s.flags := rfl
@[simp] theorem State.drawn_sp (p : Byte) : (s.drawn p).sp = s.sp := rfl
@[simp] theorem State.drawn_pc (p : Byte) : (s.drawn p).pc = s.pc := rfl
@[simp] theorem State.drawn_inte (p : Byte) : (s.drawn p).inte = s.inte := rfl
@[simp] theorem State.drawn_status (p : Byte) : (s.drawn p).status = s.status := rfl
@[simp] theorem State.drawn_mem (p : Byte) : (s.drawn p).mem = s.mem := rfl
@[simp] theorem State.drawn_draws (p : Byte) : (s.drawn p).draws = s.draws + 1 := rfl
@[simp] theorem State.drawn_io (p : Byte) : (s.drawn p).io = s.io ++ [.input p (s.ioIn p)] := rfl

/-! ## ioOut -/

@[simp] theorem State.ioOut_a (p v : Byte) : (s.ioOut p v).a = s.a := rfl
@[simp] theorem State.ioOut_b (p v : Byte) : (s.ioOut p v).b = s.b := rfl
@[simp] theorem State.ioOut_c (p v : Byte) : (s.ioOut p v).c = s.c := rfl
@[simp] theorem State.ioOut_d (p v : Byte) : (s.ioOut p v).d = s.d := rfl
@[simp] theorem State.ioOut_e (p v : Byte) : (s.ioOut p v).e = s.e := rfl
@[simp] theorem State.ioOut_h (p v : Byte) : (s.ioOut p v).h = s.h := rfl
@[simp] theorem State.ioOut_l (p v : Byte) : (s.ioOut p v).l = s.l := rfl
@[simp] theorem State.ioOut_flags (p v : Byte) : (s.ioOut p v).flags = s.flags := rfl
@[simp] theorem State.ioOut_sp (p v : Byte) : (s.ioOut p v).sp = s.sp := rfl
@[simp] theorem State.ioOut_pc (p v : Byte) : (s.ioOut p v).pc = s.pc := rfl
@[simp] theorem State.ioOut_inte (p v : Byte) : (s.ioOut p v).inte = s.inte := rfl
@[simp] theorem State.ioOut_status (p v : Byte) : (s.ioOut p v).status = s.status := rfl
@[simp] theorem State.ioOut_mem (p v : Byte) : (s.ioOut p v).mem = s.mem := rfl
@[simp] theorem State.ioOut_draws (p v : Byte) : (s.ioOut p v).draws = s.draws := rfl
@[simp] theorem State.ioOut_io (p v : Byte) : (s.ioOut p v).io = s.io ++ [.output p v] := rfl

/-! ## alu -/

@[simp] theorem State.alu_a (op : AluOp) (v : Byte) :
    (s.alu op v).a = if aluWritesA op then (aluResult op s.a v s.flags.cy).1 else s.a := rfl
@[simp] theorem State.alu_b (op : AluOp) (v : Byte) : (s.alu op v).b = s.b := rfl
@[simp] theorem State.alu_c (op : AluOp) (v : Byte) : (s.alu op v).c = s.c := rfl
@[simp] theorem State.alu_d (op : AluOp) (v : Byte) : (s.alu op v).d = s.d := rfl
@[simp] theorem State.alu_e (op : AluOp) (v : Byte) : (s.alu op v).e = s.e := rfl
@[simp] theorem State.alu_h (op : AluOp) (v : Byte) : (s.alu op v).h = s.h := rfl
@[simp] theorem State.alu_l (op : AluOp) (v : Byte) : (s.alu op v).l = s.l := rfl
@[simp] theorem State.alu_flags (op : AluOp) (v : Byte) :
    (s.alu op v).flags = (s.flags.szp (aluResult op s.a v s.flags.cy).1).setCY (aluResult op s.a v s.flags.cy).2 := rfl
@[simp] theorem State.alu_sp (op : AluOp) (v : Byte) : (s.alu op v).sp = s.sp := rfl
@[simp] theorem State.alu_pc (op : AluOp) (v : Byte) : (s.alu op v).pc = s.pc := rfl
@[simp] theorem State.alu_inte (op : AluOp) (v : Byte) : (s.alu op v).inte = s.inte := rfl
@[simp] theorem State.alu_status (op : AluOp) (v : Byte) : (s.alu op v).status = s.status := rfl
@[simp] theorem State.alu_mem (op : AluOp) (v : Byte) : (s.alu op v).mem = s.mem := rfl
@[simp] theorem State.alu_draws (op : AluOp) (v : Byte) : (s.alu op v).draws = s.draws := rfl
@[simp] theorem State.alu_io (op : AluOp) (v : Byte) : (s.alu op v).io = s.io := rfl

/-! ## writeM -/

@[simp] theorem State.writeM_a (v : Byte) : (s.writeM v).a = s.a := rfl
@[simp] theorem State.writeM_b (v : Byte) : (s.writeM v).b = s.b := rfl
@[simp] theorem State.writeM_c (v : Byte) : (s.writeM v).c = s.c := rfl
@[simp] theorem State.writeM_d (v : Byte) : (s.writeM v).d = s.d := rfl
@[simp] theorem State.writeM_e (v : Byte) : (s.writeM v).e = s.e := rfl
@[simp] theorem State.writeM_h (v : Byte) : (s.writeM v).h = s.h := rfl
@[simp] theorem State.writeM_l (v : Byte) : (s.writeM v).l = s.l := rfl
@[simp] theorem State.writeM_flags (v : Byte) : (s.writeM v).flags = s.flags := rfl
@[simp] theorem State.writeM_sp (v : Byte) : (s.writeM v).sp = s.sp := rfl
@[simp] theorem State.writeM_pc (v : Byte) : (s.writeM v).pc = s.pc := rfl
@[simp] theorem State.writeM_inte (v : Byte) : (s.writeM v).inte = s.inte := rfl
@[simp] theorem State.writeM_status (v : Byte) : (s.writeM v).status = s.status := rfl
@[simp] theorem State.writeM_mem (v : Byte) : (s.writeM v).mem = s.mem.write s.hl v := rfl
@[simp] theorem State.writeM_draws (v : Byte) : (s.writeM v).draws = s.draws := rfl
@[simp] theorem State.writeM_io (v : Byte) : (s.writeM v).io = s.io := rfl

/-! ## setReg -/

@[simp] theorem State.setReg_flags (r : Reg8) (v : Byte) : (s.setReg r v).flags = s.flags := by cases r <;> rfl
@[simp] theorem State.setReg_sp (r : Reg8) (v : Byte) : (s.setReg r v).sp = s.sp := by cases r <;> rfl
@[simp] theorem State.setReg_pc (r : Reg8) (v : Byte) : (s.setReg r v).pc = s.pc := by cases r <;> rfl
@[simp] theorem State.setReg_inte (r : Reg8) (v : Byte) : (s.setReg r v).inte = s.inte := by cases r <;> rfl
@[simp] theorem State.setReg_status (r : Reg8) (v : Byte) : (s.setReg r v).status = s.status := by cases r <;> rfl
@[simp] theorem State.setReg_mem (r : Reg8) (v : Byte) : (s.setReg r v).mem = s.mem := by cases r <;> rfl
@[simp] theorem State.setReg_draws (r : Reg8) (v : Byte) : (s.setReg r v).draws = s.draws := by cases r <;> rfl
@[simp] theorem State.setReg_io (r : Reg8) (v : Byte) : (s.setReg r v).io = s.io := by cases r <;> rfl

/-! ## setRp -/

@[simp] theorem State.setRp_a (p : Rp) (v : Word) : (s.setRp p v).a = s.a := by cases p <;> rfl
@[simp] theorem State.setRp_flags (p : Rp) (v : Word) : (s.setRp p v).flags = s.flags := by cases p <;> rfl
@[simp] theorem State.setRp_pc (p : Rp) (v : Word) : (s.setRp p v).pc = s.pc := by cases p <;> rfl
@[simp] theorem State.setRp_inte (p : Rp) (v : Word) : (s.setRp p v).inte = s.inte := by cases p <;> rfl
@[simp] theorem State.setRp_status (p : Rp) (v : Word) : (s.setRp p v).status = s.status := by cases p <;> rfl
@[simp] theorem State.setRp_mem (p : Rp) (v : Word) : (s.setRp p v).mem = s.mem := by cases p <;> rfl
@[simp] theorem State.setRp_draws (p : Rp) (v : Word) : (s.setRp p v).draws = s.draws := by cases p <;> rfl
@[simp] theorem State.setRp_io (p : Rp) (v : Word) : (s.setRp p v).io = s.io := by cases p <;> rfl

/-! ## setRps -/

@[simp] theorem State.setRps_sp (p : Rps) (v : Word) : (s.setRps p v).sp = s.sp := by cases p <;> rfl
@[simp] theorem State.setRps_pc (p : Rps) (v : Word) : (s.setRps p v).pc = s.pc := by cases p <;> rfl
@[simp] theorem State.setRps_inte (p : Rps) (v : Word) : (s.setRps p v).inte = s.inte := by cases p <;> rfl
@[simp] theorem State.setRps_status (p : Rps) (v : Word) : (s.setRps p v).status = s.status := by cases p <;> rfl
@[simp] theorem State.setRps_mem (p : Rps) (v : Word) : (s.setRps p v).mem = s.mem := by cases p <;> rfl
@[simp] theorem State.setRps_draws (p : Rps) (v : Word) : (s.setRps p v).draws = s.draws := by cases p <;> rfl
@[simp] theorem State.setRps_io (p : Rps) (v : Word) : (s.setRps p v).io = s.io := by cases p <;> rfl

/-- A register written reads back, and the other six are unchanged. -/
@[simp] theorem State.setReg_reg (r q : Reg8) (v : Byte) :
    (s.setReg r v).reg q = if q = r then v else s.reg q := by
  cases r <;> cases q <;> rfl

/-- Two flag updates have the fields they say. -/
@[simp] theorem Flags.szp_cy (f : Flags) (v : Byte) : (f.szp v).cy = f.cy := rfl
@[simp] theorem Flags.szp_ac (f : Flags) (v : Byte) : (f.szp v).ac = f.ac := rfl
@[simp] theorem Flags.szp_z (f : Flags) (v : Byte) : (f.szp v).z = decide (v = 0) := rfl
@[simp] theorem Flags.szp_s (f : Flags) (v : Byte) : (f.szp v).s = v.getLsbD 7 := rfl
@[simp] theorem Flags.szp_p (f : Flags) (v : Byte) : (f.szp v).p = parityEven v := rfl
@[simp] theorem Flags.setCY_cy (f : Flags) (b : Bool) : (f.setCY b).cy = b := rfl
@[simp] theorem Flags.setCY_ac (f : Flags) (b : Bool) : (f.setCY b).ac = f.ac := rfl
@[simp] theorem Flags.setCY_z (f : Flags) (b : Bool) : (f.setCY b).z = f.z := rfl
@[simp] theorem Flags.setCY_s (f : Flags) (b : Bool) : (f.setCY b).s = f.s := rfl
@[simp] theorem Flags.setCY_p (f : Flags) (b : Bool) : (f.setCY b).p = f.p := rfl
@[simp] theorem Flags.unpack_z (f : Flags) (v : Byte) : (f.unpack v).z = v.getLsbD 6 := rfl
@[simp] theorem Flags.unpack_s (f : Flags) (v : Byte) : (f.unpack v).s = v.getLsbD 7 := rfl
@[simp] theorem Flags.unpack_p (f : Flags) (v : Byte) : (f.unpack v).p = v.getLsbD 2 := rfl
@[simp] theorem Flags.unpack_cy (f : Flags) (v : Byte) : (f.unpack v).cy = v.getLsbD 0 := rfl
@[simp] theorem Flags.unpack_ac (f : Flags) (v : Byte) : (f.unpack v).ac = f.ac := rfl

/-- Writing a pair of the PUSH/POP kind never writes AC. -/
@[simp] theorem State.setRps_flags_ac (p : Rps) (v : Word) : (s.setRps p v).flags.ac = s.flags.ac := by
  cases p <;> rfl

/-- The state after reset, field by field, is the record of R34. -/
theorem State.resetWith_eq (spInit pcInit : Word) (m : Memory) :
    State.resetWith spInit pcInit m =
      ⟨0, 0, 0, 0, 0, 0, 0, ⟨false, false, false, false, false⟩, spInit, pcInit, false, .running, m, 0, []⟩ := rfl

end Sys2Proof.Machine
end

