-- ==== Sys2Proof/Laws/Ops.lean ====
section
/-!
SUPPORT. One lemma for each shared operation, saying all it does: the byte and word views, memory after a push or a word
write, the pairs read back, the ALU results in terms of BitVec arithmetic, and the meanings that depend on a condition.
-/

namespace Sys2Proof.Machine

/-! ## Bytes and words -/

theorem loByte_toNat (v : Word) : (loByte v).toNat = v.toNat % 256 := by
  simp [loByte]

theorem hiByte_toNat (v : Word) : (hiByte v).toNat = v.toNat / 256 := by
  have := v.isLt
  simp only [hiByte, BitVec.extractLsb'_toNat, Nat.shiftRight_eq_div_pow]
  omega

theorem word_toNat (hi lo : Byte) : (word hi lo).toNat = hi.toNat * 256 + lo.toNat := by
  have h : (word hi lo).toNat = hi.toNat <<< 8 ||| lo.toNat := BitVec.toNat_append hi lo
  rw [h, ← Nat.shiftLeft_add_eq_or_of_lt lo.isLt, Nat.shiftLeft_eq]

@[simp] theorem loByte_word (hi lo : Byte) : loByte (word hi lo) = lo := by
  apply BitVec.eq_of_toNat_eq
  have := lo.isLt
  rw [loByte_toNat, word_toNat]
  omega

@[simp] theorem hiByte_word (hi lo : Byte) : hiByte (word hi lo) = hi := by
  apply BitVec.eq_of_toNat_eq
  have := lo.isLt
  rw [hiByte_toNat, word_toNat]
  omega

@[simp] theorem word_hi_lo (v : Word) : word (hiByte v) (loByte v) = v := by
  apply BitVec.eq_of_toNat_eq
  rw [word_toNat, hiByte_toNat, loByte_toNat]
  omega

/-! ## Pairs -/

@[simp] theorem State.setRp_rp (s : State) (p : Rp) (v : Word) : (s.setRp p v).rp p = v := by
  cases p <;> simp [State.setRp, State.rp, State.bc, State.de, State.hl]

/-! ## Memory of the state -/

/-- Everything a word write does, byte by byte. -/
theorem Memory.read_writeWord (m : Memory) (x v y : Word) :
    (m.writeWord x v).read y =
      if y = x + 1 then hiByte v else if y = x then loByte v else m.read y := by
  simp only [Memory.writeWord, Memory.read_write]

/-- Everything a push does to memory, byte by byte. -/
theorem State.read_push16 (s : State) (v y : Word) :
    (s.push16 v).mem.read y =
      if y = s.sp - 2 then loByte v else if y = s.sp - 1 then hiByte v else s.mem.read y := by
  simp only [State.push16_mem, Memory.read_write]

/-- All a pop does to the state (R61). -/
theorem State.drop16_eq (s : State) : s.drop16 = { s with sp := s.sp + 2 } := rfl

/-! ## The ALU -/

theorem add8_eq (a b : Byte) (cin : Bool) :
    add8 a b cin = (a + b + BitVec.ofNat 8 cin.toNat, decide (0xFF < a.toNat + b.toNat + cin.toNat)) := by
  refine Prod.ext ?_ rfl
  apply BitVec.eq_of_toNat_eq
  simp [add8, BitVec.toNat_add]

theorem sub8_eq (a b : Byte) (bin : Bool) :
    sub8 a b bin = (a - b - BitVec.ofNat 8 bin.toNat, decide (a.toNat < b.toNat + bin.toNat)) := by
  refine Prod.ext ?_ ?_
  · apply BitVec.eq_of_toNat_eq
    have ha := a.isLt
    have hb := b.isLt
    cases bin <;>
      simp only [sub8, BitVec.toNat_ofInt, BitVec.toNat_sub, BitVec.toNat_ofNat, Bool.toNat_false, Bool.toNat_true] <;>
      omega
  · simp only [sub8, decide_eq_decide]
    omega

/-! ## Meanings that depend on a condition -/

/-- Everything Jcc does. -/
theorem jumpIf_eq (cc : Cond) (addr : Word) (s : State) :
    jumpIf cc addr s = .next (s.jump (if s.flags.cond cc then addr else s.pc + 3)) := by
  unfold jumpIf jumpTo
  split <;> simp_all [State.advance, State.jump]

/-- Everything Ccc does. -/
theorem callIf_eq (cc : Cond) (addr : Word) (s : State) :
    callIf cc addr s =
      .next (if s.flags.cond cc then (s.push16 (s.pc + 3)).jump addr else s.advance 3) := by
  unfold callIf callTo
  split <;> rfl

/-- Everything Rcc does. -/
theorem returnIf_eq (cc : Cond) (s : State) :
    returnIf cc s = .next (if s.flags.cond cc then s.drop16.jump s.top16 else s.advance 1) := by
  unfold returnIf returnAlways
  split <;> rfl

end Sys2Proof.Machine
end

