-- ==== Sys2Proof/Tests/Slice0.lean ====
section
/-!
SUPPORT. Tests. Expected values come from the spec: the bit patterns of 30_encoding.md R88 with the field codes of R84, R85,
R89, R90 (and R91, R93 for the fixed opcodes), and the vectors of 95_test_vectors.md, by whose number a test is named. The
witnesses at the end are concrete states and operands that meet the hypotheses of the obligations.
-/

open Sys2Proof Sys2Proof.Machine

namespace Sys2Proof.Tests

/-! ## Well-formed machine code: one ill-formed list of bytes for each check -/

theorem test_code_well_formed : wellFormedCode [0x01, 0x00, 0x24] = true := by decide

theorem test_code_without_opcode : hasOpcode [] = false ∧ wellFormedCode [] = false := by decide

theorem test_code_without_operand : hasItsOperands [0x01, 0x00] = false ∧ wellFormedCode [0x01, 0x00] = false := by decide

theorem test_code_with_a_byte_after :
    hasNothingAfter [0x00, 0x00] = false ∧ wellFormedCode [0x00, 0x00] = false := by decide

theorem test_decode_names_what_is_missing :
    [[], [0x01, 0x00], [0xD3]].map decode = [.noOpcode, .missingOperand 0x01, .missingOperand 0xD3] := rfl

/-! ## Decoding: each opcode byte bit by bit from the formats, with the operand bytes CD AB -/

theorem test_decode_row0 :
    [[0b00000000], [0b00000001, 0xCD, 0xAB], [0b00000010], [0b00000011], [0b00000100], [0b00000101],
      [0b00000110, 0xCD], [0b00000111], [0b00001000], [0b00001001], [0b00001010], [0b00001011], [0b00001100],
      [0b00001101], [0b00001110, 0xCD], [0b00001111]].map decode =
    [.nop, .lxiB 0xABCD, .staxB, .inxB, .inrB, .dcrB, .mviB 0xCD, .rlc, .undocumented08, .dadB, .ldaxB, .dcxB,
      .inrC, .dcrC, .mviC 0xCD, .rrc].map (Decoded.ok · []) := rfl

theorem test_decode_row1 :
    [[0b00010000], [0b00010001, 0xCD, 0xAB], [0b00010010], [0b00010011], [0b00010100], [0b00010101],
      [0b00010110, 0xCD], [0b00010111], [0b00011000], [0b00011001], [0b00011010], [0b00011011], [0b00011100],
      [0b00011101], [0b00011110, 0xCD], [0b00011111]].map decode =
    [.undocumented10, .lxiD 0xABCD, .staxD, .inxD, .inrD, .dcrD, .mviD 0xCD, .ral, .undocumented18, .dadD, .ldaxD,
      .dcxD, .inrE, .dcrE, .mviE 0xCD, .rar].map (Decoded.ok · []) := rfl

theorem test_decode_row2 :
    [[0b00100000], [0b00100001, 0xCD, 0xAB], [0b00100010, 0xCD, 0xAB], [0b00100011], [0b00100100], [0b00100101],
      [0b00100110, 0xCD], [0b00100111], [0b00101000], [0b00101001], [0b00101010, 0xCD, 0xAB], [0b00101011],
      [0b00101100], [0b00101101], [0b00101110, 0xCD], [0b00101111]].map decode =
    [.undocumented20, .lxiH 0xABCD, .shld 0xABCD, .inxH, .inrH, .dcrH, .mviH 0xCD, .daa, .undocumented28, .dadH,
      .lhld 0xABCD, .dcxH, .inrL, .dcrL, .mviL 0xCD, .cma].map (Decoded.ok · []) := rfl

theorem test_decode_row3 :
    [[0b00110000], [0b00110001, 0xCD, 0xAB], [0b00110010, 0xCD, 0xAB], [0b00110011], [0b00110100], [0b00110101],
      [0b00110110, 0xCD], [0b00110111], [0b00111000], [0b00111001], [0b00111010, 0xCD, 0xAB], [0b00111011],
      [0b00111100], [0b00111101], [0b00111110, 0xCD], [0b00111111]].map decode =
    [.undocumented30, .lxiSp 0xABCD, .sta 0xABCD, .inxSp, .inrM, .dcrM, .mviM 0xCD, .stc, .undocumented38, .dadSp,
      .lda 0xABCD, .dcxSp, .inrA, .dcrA, .mviA 0xCD, .cmc].map (Decoded.ok · []) := rfl

theorem test_decode_row4 :
    [[0b01000000], [0b01000001], [0b01000010], [0b01000011], [0b01000100], [0b01000101], [0b01000110],
      [0b01000111], [0b01001000], [0b01001001], [0b01001010], [0b01001011], [0b01001100], [0b01001101],
      [0b01001110], [0b01001111]].map decode =
    [.movBB, .movBC, .movBD, .movBE, .movBH, .movBL, .movBM, .movBA, .movCB, .movCC, .movCD, .movCE, .movCH,
      .movCL, .movCM, .movCA].map (Decoded.ok · []) := rfl

theorem test_decode_row5 :
    [[0b01010000], [0b01010001], [0b01010010], [0b01010011], [0b01010100], [0b01010101], [0b01010110],
      [0b01010111], [0b01011000], [0b01011001], [0b01011010], [0b01011011], [0b01011100], [0b01011101],
      [0b01011110], [0b01011111]].map decode =
    [.movDB, .movDC, .movDD, .movDE, .movDH, .movDL, .movDM, .movDA, .movEB, .movEC, .movED, .movEE, .movEH,
      .movEL, .movEM, .movEA].map (Decoded.ok · []) := rfl

theorem test_decode_row6 :
    [[0b01100000], [0b01100001], [0b01100010], [0b01100011], [0b01100100], [0b01100101], [0b01100110],
      [0b01100111], [0b01101000], [0b01101001], [0b01101010], [0b01101011], [0b01101100], [0b01101101],
      [0b01101110], [0b01101111]].map decode =
    [.movHB, .movHC, .movHD, .movHE, .movHH, .movHL, .movHM, .movHA, .movLB, .movLC, .movLD, .movLE, .movLH,
      .movLL, .movLM, .movLA].map (Decoded.ok · []) := rfl

theorem test_decode_row7 :
    [[0b01110000], [0b01110001], [0b01110010], [0b01110011], [0b01110100], [0b01110101], [0b01110110],
      [0b01110111], [0b01111000], [0b01111001], [0b01111010], [0b01111011], [0b01111100], [0b01111101],
      [0b01111110], [0b01111111]].map decode =
    [.movMB, .movMC, .movMD, .movME, .movMH, .movML, .hlt, .movMA, .movAB, .movAC, .movAD, .movAE, .movAH, .movAL,
      .movAM, .movAA].map (Decoded.ok · []) := rfl

theorem test_decode_row8 :
    [[0b10000000], [0b10000001], [0b10000010], [0b10000011], [0b10000100], [0b10000101], [0b10000110],
      [0b10000111], [0b10001000], [0b10001001], [0b10001010], [0b10001011], [0b10001100], [0b10001101],
      [0b10001110], [0b10001111]].map decode =
    [.addB, .addC, .addD, .addE, .addH, .addL, .addM, .addA, .adcB, .adcC, .adcD, .adcE, .adcH, .adcL, .adcM, .adcA].map (Decoded.ok · []) := rfl

theorem test_decode_row9 :
    [[0b10010000], [0b10010001], [0b10010010], [0b10010011], [0b10010100], [0b10010101], [0b10010110],
      [0b10010111], [0b10011000], [0b10011001], [0b10011010], [0b10011011], [0b10011100], [0b10011101],
      [0b10011110], [0b10011111]].map decode =
    [.subB, .subC, .subD, .subE, .subH, .subL, .subM, .subA, .sbbB, .sbbC, .sbbD, .sbbE, .sbbH, .sbbL, .sbbM, .sbbA].map (Decoded.ok · []) := rfl

theorem test_decode_rowA :
    [[0b10100000], [0b10100001], [0b10100010], [0b10100011], [0b10100100], [0b10100101], [0b10100110],
      [0b10100111], [0b10101000], [0b10101001], [0b10101010], [0b10101011], [0b10101100], [0b10101101],
      [0b10101110], [0b10101111]].map decode =
    [.anaB, .anaC, .anaD, .anaE, .anaH, .anaL, .anaM, .anaA, .xraB, .xraC, .xraD, .xraE, .xraH, .xraL, .xraM, .xraA].map (Decoded.ok · []) := rfl

theorem test_decode_rowB :
    [[0b10110000], [0b10110001], [0b10110010], [0b10110011], [0b10110100], [0b10110101], [0b10110110],
      [0b10110111], [0b10111000], [0b10111001], [0b10111010], [0b10111011], [0b10111100], [0b10111101],
      [0b10111110], [0b10111111]].map decode =
    [.oraB, .oraC, .oraD, .oraE, .oraH, .oraL, .oraM, .oraA, .cmpB, .cmpC, .cmpD, .cmpE, .cmpH, .cmpL, .cmpM, .cmpA].map (Decoded.ok · []) := rfl

theorem test_decode_rowC :
    [[0b11000000], [0b11000001], [0b11000010, 0xCD, 0xAB], [0b11000011, 0xCD, 0xAB], [0b11000100, 0xCD, 0xAB],
      [0b11000101], [0b11000110, 0xCD], [0b11000111], [0b11001000], [0b11001001], [0b11001010, 0xCD, 0xAB],
      [0b11001011], [0b11001100, 0xCD, 0xAB], [0b11001101, 0xCD, 0xAB], [0b11001110, 0xCD], [0b11001111]].map decode =
    [.rnz, .popB, .jnz 0xABCD, .jmp 0xABCD, .cnz 0xABCD, .pushB, .adi 0xCD, .rst0, .rz, .ret, .jz 0xABCD,
      .undocumentedCB, .cz 0xABCD, .call 0xABCD, .aci 0xCD, .rst1].map (Decoded.ok · []) := rfl

theorem test_decode_rowD :
    [[0b11010000], [0b11010001], [0b11010010, 0xCD, 0xAB], [0b11010011, 0xCD], [0b11010100, 0xCD, 0xAB],
      [0b11010101], [0b11010110, 0xCD], [0b11010111], [0b11011000], [0b11011001], [0b11011010, 0xCD, 0xAB],
      [0b11011011, 0xCD], [0b11011100, 0xCD, 0xAB], [0b11011101], [0b11011110, 0xCD], [0b11011111]].map decode =
    [.rnc, .popD, .jnc 0xABCD, .outPort 0xCD, .cnc 0xABCD, .pushD, .sui 0xCD, .rst2, .rc, .undocumentedD9,
      .jc 0xABCD, .inPort 0xCD, .cc 0xABCD, .undocumentedDD, .sbi 0xCD, .rst3].map (Decoded.ok · []) := rfl

theorem test_decode_rowE :
    [[0b11100000], [0b11100001], [0b11100010, 0xCD, 0xAB], [0b11100011], [0b11100100, 0xCD, 0xAB], [0b11100101],
      [0b11100110, 0xCD], [0b11100111], [0b11101000], [0b11101001], [0b11101010, 0xCD, 0xAB], [0b11101011],
      [0b11101100, 0xCD, 0xAB], [0b11101101], [0b11101110, 0xCD], [0b11101111]].map decode =
    [.rpo, .popH, .jpo 0xABCD, .xthl, .cpo 0xABCD, .pushH, .ani 0xCD, .rst4, .rpe, .pchl, .jpe 0xABCD, .xchg,
      .cpe 0xABCD, .undocumentedED, .xri 0xCD, .rst5].map (Decoded.ok · []) := rfl

theorem test_decode_rowF :
    [[0b11110000], [0b11110001], [0b11110010, 0xCD, 0xAB], [0b11110011], [0b11110100, 0xCD, 0xAB], [0b11110101],
      [0b11110110, 0xCD], [0b11110111], [0b11111000], [0b11111001], [0b11111010, 0xCD, 0xAB], [0b11111011],
      [0b11111100, 0xCD, 0xAB], [0b11111101], [0b11111110, 0xCD], [0b11111111]].map decode =
    [.rp, .popPsw, .jp 0xABCD, .di, .cp 0xABCD, .pushPsw, .ori 0xCD, .rst6, .rm, .sphl, .jm 0xABCD, .ei,
      .cm 0xABCD, .undocumentedFD, .cpi 0xCD, .rst7].map (Decoded.ok · []) := rfl

/-! ## One step: the vectors of 95_test_vectors.md -/

/-- The start state of the vectors: SP is 0x2400, memory is zero but for the instruction's bytes at PC. -/
def start (pc : Word) (code : List Byte) : State := (State.resetWith 0x2400 pc []).loadBytes pc code

/-- The state after one step. -/
def after (s : State) : State :=
  match step s with
  | .next t => t
  | .fault f => nomatch f
  | .refused _ => s

theorem test_A_1 :
    let t := after { start 0x0100 [0x80] with a := 0x2E, b := 0x6C }
    t.a = 0x9A ∧ t.flags = ⟨false, true, true, false, false⟩ ∧ t.pc = 0x0101 := by decide

theorem test_A_2 :
    let t := after { start 0x0100 [0x87] with a := 0x80 }
    t.a = 0x00 ∧ t.flags = ⟨true, false, true, true, false⟩ ∧ t.pc = 0x0101 := by decide

theorem test_A_3 :
    let t := after { start 0x0100 [0x81] with a := 0x7F, c := 0x01 }
    t.a = 0x80 ∧ t.flags = ⟨false, true, false, false, false⟩ ∧ t.pc = 0x0101 := by decide

theorem test_A_4 :
    let t := after { (start 0x0100 [0x86]).loadBytes 0x2000 [0x01] with a := 0xFF, h := 0x20, l := 0x00 }
    t.a = 0x00 ∧ t.flags = ⟨true, false, true, true, false⟩ ∧ t.pc = 0x0101 := by decide

theorem test_A_5 :
    let t := after { start 0x0100 [0xC6, 0x00] with a := 0x00, flags := ⟨false, false, false, true, false⟩ }
    t.flags = ⟨true, false, true, false, false⟩ ∧ t.pc = 0x0102 := by decide

theorem test_A_6 :
    let t := after { start 0x0100 [0x88] with a := 0xFF, b := 0xFF, flags := ⟨false, false, false, true, false⟩ }
    t.flags = ⟨false, true, true, true, false⟩ ∧ t.pc = 0x0101 := by decide

theorem test_A_7 :
    let t := after { start 0x0100 [0x8F] with a := 0x80, flags := ⟨false, false, false, true, false⟩ }
    t.a = 0x01 ∧ t.flags = ⟨false, false, false, true, false⟩ ∧ t.pc = 0x0101 := by decide

theorem test_A_8 :
    let t := after { (start 0x0100 [0x8E]).loadBytes 0x2000 [0xF0] with a := 0x0F, h := 0x20, l := 0x00, flags := ⟨false, false, false, true, false⟩ }
    t.a = 0x00 ∧ t.flags = ⟨true, false, true, true, false⟩ ∧ t.pc = 0x0101 := by decide

theorem test_A_9 :
    let t := after { start 0x0100 [0xCE, 0xFF] with a := 0x00, flags := ⟨false, false, false, true, false⟩ }
    t.flags = ⟨true, false, true, true, false⟩ ∧ t.pc = 0x0102 := by decide

theorem test_A_10 :
    let t := after { start 0x0100 [0xCE, 0xFF] with a := 0x00 }
    t.a = 0xFF ∧ t.flags = ⟨false, true, true, false, false⟩ ∧ t.pc = 0x0102 := by decide

theorem test_B_1 :
    let t := after { start 0x0100 [0x97] with a := 0x5A, flags := ⟨false, false, false, true, false⟩ }
    t.a = 0x00 ∧ t.flags = ⟨true, false, true, false, false⟩ ∧ t.pc = 0x0101 := by decide

theorem test_B_2 :
    let t := after { start 0x0100 [0x90] with a := 0x00, b := 0x01 }
    t.a = 0xFF ∧ t.flags = ⟨false, true, true, true, false⟩ ∧ t.pc = 0x0101 := by decide

theorem test_B_3 :
    let t := after { (start 0x0100 [0x96]).loadBytes 0x2000 [0x01] with a := 0x80, h := 0x20, l := 0x00 }
    t.a = 0x7F ∧ t.flags = ⟨false, false, false, false, false⟩ ∧ t.pc = 0x0101 := by decide

theorem test_B_4 :
    let t := after { start 0x0100 [0xD6, 0x80] with a := 0x7F }
    t.a = 0xFF ∧ t.flags = ⟨false, true, true, true, false⟩ ∧ t.pc = 0x0102 := by decide

theorem test_B_5 :
    let t := after { start 0x0100 [0x9F] with a := 0x33 }
    t.a = 0x00 ∧ t.flags = ⟨true, false, true, false, false⟩ ∧ t.pc = 0x0101 := by decide

theorem test_B_6 :
    let t := after { start 0x0100 [0x9F] with a := 0x33, flags := ⟨false, false, false, true, false⟩ }
    t.a = 0xFF ∧ t.flags = ⟨false, true, true, true, false⟩ ∧ t.pc = 0x0101 := by decide

theorem test_B_7 :
    let t := after { start 0x0100 [0x98] with a := 0x00, b := 0xFF, flags := ⟨false, false, false, true, false⟩ }
    t.flags = ⟨true, false, true, true, false⟩ ∧ t.pc = 0x0101 := by decide

theorem test_B_8 :
    let t := after { start 0x0100 [0xDE, 0x00] with a := 0x00, flags := ⟨false, false, false, true, false⟩ }
    t.a = 0xFF ∧ t.flags = ⟨false, true, true, true, false⟩ ∧ t.pc = 0x0102 := by decide

theorem test_B_9 :
    let t := after { (start 0x0100 [0x9E]).loadBytes 0x2000 [0x0F] with a := 0x10, h := 0x20, l := 0x00, flags := ⟨false, false, false, true, false⟩ }
    t.a = 0x00 ∧ t.flags = ⟨true, false, true, false, false⟩ ∧ t.pc = 0x0101 := by decide

theorem test_B_10 :
    let t := after { start 0x0100 [0xBF] with a := 0x9C, flags := ⟨false, true, false, true, false⟩ }
    t.flags = ⟨true, false, true, false, false⟩ ∧ t.pc = 0x0101 := by decide

theorem test_B_11 :
    let t := after { start 0x0100 [0xB8] with a := 0x05, b := 0x05 }
    t.flags = ⟨true, false, true, false, false⟩ ∧ t.pc = 0x0101 := by decide

theorem test_B_13 :
    let t := after { (start 0x0100 [0xBE]).loadBytes 0x2000 [0x00] with a := 0xFF, h := 0x20, l := 0x00 }
    t.flags = ⟨false, true, true, false, false⟩ ∧ t.pc = 0x0101 := by decide

theorem test_B_14 :
    let t := after { start 0x0100 [0xFE, 0x01] with a := 0x00 }
    t.flags = ⟨false, true, true, true, false⟩ ∧ t.pc = 0x0102 := by decide

theorem test_C_1 :
    let t := after { start 0x0100 [0xA7] with a := 0x81, flags := ⟨false, false, false, true, false⟩ }
    t.flags = ⟨false, true, true, false, false⟩ ∧ t.pc = 0x0101 := by decide

theorem test_C_2 :
    let t := after { start 0x0100 [0xA0] with a := 0xF0, b := 0x0F, flags := ⟨false, false, false, true, false⟩ }
    t.a = 0x00 ∧ t.flags = ⟨true, false, true, false, false⟩ ∧ t.pc = 0x0101 := by decide

theorem test_C_3 :
    let t := after { (start 0x0100 [0xA6]).loadBytes 0x2000 [0x80] with a := 0xFF, h := 0x20, l := 0x00 }
    t.a = 0x80 ∧ t.flags = ⟨false, true, false, false, false⟩ ∧ t.pc = 0x0101 := by decide

theorem test_C_4 :
    let t := after { start 0x0100 [0xE6, 0x00] with a := 0xFF, flags := ⟨false, false, false, true, false⟩ }
    t.a = 0x00 ∧ t.flags = ⟨true, false, true, false, false⟩ ∧ t.pc = 0x0102 := by decide

theorem test_C_5 :
    let t := after { start 0x0100 [0xAF] with a := 0xFF, flags := ⟨false, false, false, true, false⟩ }
    t.a = 0x00 ∧ t.flags = ⟨true, false, true, false, false⟩ ∧ t.pc = 0x0101 := by decide

theorem test_C_6 :
    let t := after { start 0x0100 [0xA9] with a := 0x0F, c := 0x01 }
    t.a = 0x0E ∧ t.flags = ⟨false, false, false, false, false⟩ ∧ t.pc = 0x0101 := by decide

theorem test_C_7 :
    let t := after { (start 0x0100 [0xAE]).loadBytes 0x2000 [0x55] with a := 0xAA, h := 0x20, l := 0x00 }
    t.a = 0xFF ∧ t.flags = ⟨false, true, true, false, false⟩ ∧ t.pc = 0x0101 := by decide

theorem test_C_8 :
    let t := after { start 0x0100 [0xEE, 0xFF] with a := 0x00 }
    t.a = 0xFF ∧ t.flags = ⟨false, true, true, false, false⟩ ∧ t.pc = 0x0102 := by decide

theorem test_C_9 :
    let t := after { start 0x0100 [0xB7] with a := 0x00, flags := ⟨false, false, false, true, false⟩ }
    t.flags = ⟨true, false, true, false, false⟩ ∧ t.pc = 0x0101 := by decide

theorem test_C_10 :
    let t := after { start 0x0100 [0xB2] with a := 0x40, d := 0x01 }
    t.a = 0x41 ∧ t.flags = ⟨false, false, true, false, false⟩ ∧ t.pc = 0x0101 := by decide

theorem test_C_11 :
    let t := after { (start 0x0100 [0xB6]).loadBytes 0x2000 [0x80] with a := 0x00, h := 0x20, l := 0x00 }
    t.a = 0x80 ∧ t.flags = ⟨false, true, false, false, false⟩ ∧ t.pc = 0x0101 := by decide

theorem test_C_12 :
    let t := after { start 0x0100 [0xF6, 0x00] with a := 0x03, flags := ⟨false, false, false, true, false⟩ }
    t.flags = ⟨false, false, true, false, false⟩ ∧ t.pc = 0x0102 := by decide

theorem test_D_1 :
    let t := after { start 0x0100 [0x3C] with a := 0x7F, flags := ⟨false, false, false, true, false⟩ }
    t.a = 0x80 ∧ t.flags = ⟨false, true, false, true, false⟩ ∧ t.pc = 0x0101 := by decide

theorem test_D_3 :
    let t := after { start 0x0100 [0x3D] with a := 0x80, flags := ⟨false, false, false, true, false⟩ }
    t.a = 0x7F ∧ t.flags = ⟨false, false, false, true, false⟩ ∧ t.pc = 0x0101 := by decide

theorem test_D_5 :
    let t := after { start 0x0100 [0x05] with b := 0x01 }
    t.b = 0x00 ∧ t.flags = ⟨true, false, true, false, false⟩ ∧ t.pc = 0x0101 := by decide

theorem test_D_6 :
    let t := after { (start 0x0100 [0x34]).loadBytes 0x2000 [0xFF] with h := 0x20, l := 0x00, flags := ⟨false, false, false, true, false⟩ }
    t.mem.read 0x2000 = 0x00 ∧ t.flags = ⟨true, false, true, true, false⟩ ∧ t.pc = 0x0101 := by decide

theorem test_D_7 :
    let t := after { (start 0x0100 [0x35]).loadBytes 0x2000 [0x00] with h := 0x20, l := 0x00 }
    t.mem.read 0x2000 = 0xFF ∧ t.flags = ⟨false, true, true, false, false⟩ ∧ t.pc = 0x0101 := by decide

theorem test_D_8 :
    let t := after { start 0x0100 [0x2C] with h := 0x20, l := 0xFF }
    t.l = 0x00 ∧ t.flags = ⟨true, false, true, false, false⟩ ∧ t.pc = 0x0101 := by decide

theorem test_D_9 :
    let t := after { start 0x0100 [0x03] with b := 0xFF, c := 0xFF, flags := ⟨true, false, false, true, false⟩ }
    t.b = 0x00 ∧ t.c = 0x00 ∧ t.flags = ⟨true, false, false, true, false⟩ ∧ t.pc = 0x0101 := by decide

theorem test_D_10 :
    let t := after { start 0x0100 [0x23] with h := 0x00, l := 0xFF }
    t.h = 0x01 ∧ t.l = 0x00 ∧ t.flags = ⟨false, false, false, false, false⟩ ∧ t.pc = 0x0101 := by decide

theorem test_D_11 :
    let t := after { start 0x0100 [0x1B] with d := 0x00, e := 0x00 }
    t.d = 0xFF ∧ t.e = 0xFF ∧ t.flags = ⟨false, false, false, false, false⟩ ∧ t.pc = 0x0101 := by decide

theorem test_D_12 :
    let t := after { start 0x0100 [0x33] with sp := 0xFFFF }
    t.sp = 0x0000 ∧ t.flags = ⟨false, false, false, false, false⟩ ∧ t.pc = 0x0101 := by decide

theorem test_D_13 :
    let t := after { start 0x0100 [0x3B] with sp := 0x0000 }
    t.sp = 0xFFFF ∧ t.flags = ⟨false, false, false, false, false⟩ ∧ t.pc = 0x0101 := by decide

theorem test_E_1 :
    let t := after { start 0x0100 [0x29] with h := 0x80, l := 0x00 }
    t.h = 0x00 ∧ t.flags = ⟨false, false, false, true, false⟩ ∧ t.pc = 0x0101 := by decide

theorem test_E_2 :
    let t := after { start 0x0100 [0x09] with b := 0x33, c := 0x9F, h := 0xA1, l := 0x7B, flags := ⟨true, true, true, false, false⟩ }
    t.h = 0xD5 ∧ t.l = 0x1A ∧ t.flags = ⟨true, true, true, false, false⟩ ∧ t.pc = 0x0101 := by decide

theorem test_E_3 :
    let t := after { start 0x0100 [0x19] with d := 0x00, e := 0x01, h := 0xFF, l := 0xFF }
    t.h = 0x00 ∧ t.l = 0x00 ∧ t.flags = ⟨false, false, false, true, false⟩ ∧ t.pc = 0x0101 := by decide

theorem test_E_4 :
    let t := after { start 0x0100 [0x39] with h := 0x00, l := 0x10, sp := 0xFFF0, flags := ⟨false, false, false, true, false⟩ }
    t.l = 0x00 ∧ t.flags = ⟨false, false, false, true, false⟩ ∧ t.pc = 0x0101 := by decide

theorem test_E_5 :
    let t := after { start 0x0100 [0x29] with h := 0x12, l := 0x34, flags := ⟨false, false, false, true, false⟩ }
    t.h = 0x24 ∧ t.l = 0x68 ∧ t.flags = ⟨false, false, false, false, false⟩ ∧ t.pc = 0x0101 := by decide

theorem test_F_1 :
    let t := after { start 0x0100 [0x07] with a := 0x80, flags := ⟨true, false, false, false, false⟩ }
    t.a = 0x01 ∧ t.flags = ⟨true, false, false, true, false⟩ ∧ t.pc = 0x0101 := by decide

theorem test_F_2 :
    let t := after { start 0x0100 [0x07] with a := 0x01, flags := ⟨false, false, false, true, false⟩ }
    t.a = 0x02 ∧ t.flags = ⟨false, false, false, false, false⟩ ∧ t.pc = 0x0101 := by decide

theorem test_F_3 :
    let t := after { start 0x0100 [0x0F] with a := 0x01 }
    t.a = 0x80 ∧ t.flags = ⟨false, false, false, true, false⟩ ∧ t.pc = 0x0101 := by decide

theorem test_F_4 :
    let t := after { start 0x0100 [0x0F] with a := 0x80, flags := ⟨false, false, false, true, false⟩ }
    t.a = 0x40 ∧ t.flags = ⟨false, false, false, false, false⟩ ∧ t.pc = 0x0101 := by decide

theorem test_F_5 :
    let t := after { start 0x0100 [0x17] with a := 0x80 }
    t.a = 0x00 ∧ t.flags = ⟨false, false, false, true, false⟩ ∧ t.pc = 0x0101 := by decide

theorem test_F_6 :
    let t := after { start 0x0100 [0x17] with a := 0x00, flags := ⟨false, false, false, true, false⟩ }
    t.a = 0x01 ∧ t.flags = ⟨false, false, false, false, false⟩ ∧ t.pc = 0x0101 := by decide

theorem test_F_7 :
    let t := after { start 0x0100 [0x1F] with a := 0x01 }
    t.a = 0x00 ∧ t.flags = ⟨false, false, false, true, false⟩ ∧ t.pc = 0x0101 := by decide

theorem test_F_8 :
    let t := after { start 0x0100 [0x1F] with a := 0x00, flags := ⟨false, false, false, true, false⟩ }
    t.a = 0x80 ∧ t.flags = ⟨false, false, false, false, false⟩ ∧ t.pc = 0x0101 := by decide

theorem test_F_9 :
    let t := after { start 0x0100 [0x37] with flags := ⟨true, false, false, true, false⟩ }
    t.flags = ⟨true, false, false, true, false⟩ ∧ t.pc = 0x0101 := by decide

theorem test_F_10 :
    let t := after (start 0x0100 [0x3F])
    t.flags = ⟨false, false, false, true, false⟩ ∧ t.pc = 0x0101 := by decide

theorem test_F_11 :
    let t := after { start 0x0100 [0x2F] with a := 0x00, flags := ⟨true, false, true, false, false⟩ }
    t.a = 0xFF ∧ t.flags = ⟨true, false, true, false, false⟩ ∧ t.pc = 0x0101 := by decide

theorem test_G_2 :
    let t := after { start 0x0100 [0x41] with c := 0x99, flags := ⟨true, false, false, true, false⟩ }
    t.b = 0x99 ∧ t.flags = ⟨true, false, false, true, false⟩ ∧ t.pc = 0x0101 := by decide

theorem test_G_3 :
    let t := after { (start 0x0100 [0x66]).loadBytes 0x2000 [0x55] with h := 0x20, l := 0x00 }
    t.h = 0x55 ∧ t.flags = ⟨false, false, false, false, false⟩ ∧ t.pc = 0x0101 := by decide

theorem test_G_4 :
    let t := after { (start 0x0100 [0x6E]).loadBytes 0x2000 [0x07] with h := 0x20, l := 0x00 }
    t.l = 0x07 ∧ t.flags = ⟨false, false, false, false, false⟩ ∧ t.pc = 0x0101 := by decide

theorem test_G_5 :
    let t := after { start 0x0100 [0x75] with h := 0x20, l := 0x05 }
    t.mem.read 0x2005 = 0x05 ∧ t.flags = ⟨false, false, false, false, false⟩ ∧ t.pc = 0x0101 := by decide

theorem test_G_6 :
    let t := after { start 0x0100 [0x77] with a := 0xAB, h := 0x20, l := 0x00 }
    t.mem.read 0x2000 = 0xAB ∧ t.flags = ⟨false, false, false, false, false⟩ ∧ t.pc = 0x0101 := by decide

theorem test_G_7 :
    let t := after (start 0x0100 [0x26, 0x30])
    t.h = 0x30 ∧ t.flags = ⟨false, false, false, false, false⟩ ∧ t.pc = 0x0102 := by decide

theorem test_G_8 :
    let t := after { start 0x0100 [0x36, 0x5A] with h := 0x20, l := 0x00 }
    t.mem.read 0x2000 = 0x5A ∧ t.flags = ⟨false, false, false, false, false⟩ ∧ t.pc = 0x0102 := by decide

theorem test_G_9 :
    let t := after (start 0x0100 [0x11, 0xCD, 0xAB])
    t.d = 0xAB ∧ t.e = 0xCD ∧ t.flags = ⟨false, false, false, false, false⟩ ∧ t.pc = 0x0103 := by decide

theorem test_G_10 :
    let t := after (start 0x0100 [0x31, 0xFF, 0xFF])
    t.sp = 0xFFFF ∧ t.flags = ⟨false, false, false, false, false⟩ ∧ t.pc = 0x0103 := by decide

theorem test_G_11 :
    let t := after ((start 0x0100 [0x3A, 0xFF, 0xFF]).loadBytes 0xFFFF [0x11])
    t.a = 0x11 ∧ t.flags = ⟨false, false, false, false, false⟩ ∧ t.pc = 0x0103 := by decide

theorem test_G_12 :
    let t := after { start 0x0100 [0x32, 0x00, 0x00] with a := 0xEE }
    t.mem.read 0x0000 = 0xEE ∧ t.flags = ⟨false, false, false, false, false⟩ ∧ t.pc = 0x0103 := by decide

theorem test_G_13 :
    let t := after (((start 0x0100 [0x2A, 0xFF, 0xFF]).loadBytes 0x0000 [0x12]).loadBytes 0xFFFF [0x34])
    t.h = 0x12 ∧ t.l = 0x34 ∧ t.flags = ⟨false, false, false, false, false⟩ ∧ t.pc = 0x0103 := by decide

theorem test_G_14 :
    let t := after { start 0x0100 [0x22, 0xFF, 0xFF] with h := 0x12, l := 0x34 }
    t.mem.read 0x0000 = 0x12 ∧ t.mem.read 0xFFFF = 0x34 ∧ t.flags = ⟨false, false, false, false, false⟩ ∧
    t.pc = 0x0103 := by decide

theorem test_G_15 :
    let t := after { (start 0x0100 [0x1A]).loadBytes 0x2001 [0x66] with d := 0x20, e := 0x01 }
    t.a = 0x66 ∧ t.flags = ⟨false, false, false, false, false⟩ ∧ t.pc = 0x0101 := by decide

theorem test_G_16 :
    let t := after { start 0x0100 [0x02] with a := 0x5E, b := 0x20, c := 0x02 }
    t.mem.read 0x2002 = 0x5E ∧ t.flags = ⟨false, false, false, false, false⟩ ∧ t.pc = 0x0101 := by decide

theorem test_G_17 :
    let t := after { start 0x0100 [0xEB] with d := 0x11, e := 0x22, h := 0x33, l := 0x44 }
    t.d = 0x33 ∧ t.e = 0x44 ∧ t.h = 0x11 ∧ t.l = 0x22 ∧ t.flags = ⟨false, false, false, false, false⟩ ∧
    t.pc = 0x0101 := by decide

theorem test_G_18 :
    let t := after { start 0x0100 [0x32, 0x01, 0x01] with a := 0x77 }
    t.mem.read 0x0101 = 0x77 ∧ t.flags = ⟨false, false, false, false, false⟩ ∧ t.pc = 0x0103 := by decide

theorem test_H_1 :
    let t := after { start 0x0100 [0xD5] with d := 0xBE, e := 0xEF }
    t.sp = 0x23FE ∧ t.mem.read 0x23FE = 0xEF ∧ t.mem.read 0x23FF = 0xBE ∧
    t.flags = ⟨false, false, false, false, false⟩ ∧ t.pc = 0x0101 := by decide

theorem test_H_2 :
    let t := after { start 0x0100 [0xE5] with h := 0x12, l := 0x34, sp := 0x0001 }
    t.sp = 0xFFFF ∧ t.mem.read 0x0000 = 0x12 ∧ t.mem.read 0xFFFF = 0x34 ∧
    t.flags = ⟨false, false, false, false, false⟩ ∧ t.pc = 0x0101 := by decide

theorem test_H_3 :
    let t := after { ((start 0x0100 [0xC1]).loadBytes 0x0000 [0x12]).loadBytes 0xFFFF [0x34] with sp := 0xFFFF }
    t.b = 0x12 ∧ t.c = 0x34 ∧ t.sp = 0x0001 ∧ t.flags = ⟨false, false, false, false, false⟩ ∧ t.pc = 0x0101 := by decide

theorem test_H_4 :
    let t := after { (start 0x0100 [0xF5]).loadBytes 0x23FF [0xFF] with a := 0x00 }
    t.sp = 0x23FE ∧ t.mem.read 0x23FE = 0x02 ∧ t.mem.read 0x23FF = 0x00 ∧
    t.flags = ⟨false, false, false, false, false⟩ ∧ t.pc = 0x0101 := by decide

theorem test_H_5 :
    let t := after { start 0x0100 [0xF5] with a := 0xFF, flags := ⟨true, true, true, true, false⟩ }
    t.sp = 0x23FE ∧ t.mem.read 0x23FE = 0xC7 ∧ t.mem.read 0x23FF = 0xFF ∧
    t.flags = ⟨true, true, true, true, false⟩ ∧ t.pc = 0x0101 := by decide

theorem test_H_6 :
    let t := after { ((start 0x0100 [0xF1]).loadBytes 0x23FE [0x00]).loadBytes 0x23FF [0x7F] with sp := 0x23FE, flags := ⟨true, true, true, true, false⟩ }
    t.a = 0x7F ∧ t.sp = 0x2400 ∧ t.flags = ⟨false, false, false, false, false⟩ ∧ t.pc = 0x0101 := by decide

theorem test_H_7 :
    let t := after { ((start 0x0100 [0xF1]).loadBytes 0x23FE [0x3A]).loadBytes 0x23FF [0x01] with sp := 0x23FE }
    t.a = 0x01 ∧ t.sp = 0x2400 ∧ t.flags = ⟨false, false, false, false, false⟩ ∧ t.pc = 0x0101 := by decide

theorem test_H_8 :
    let t := after { ((start 0x0100 [0xE3]).loadBytes 0x0000 [0x22]).loadBytes 0xFFFF [0x11] with h := 0xAA, l := 0xBB, sp := 0xFFFF }
    t.h = 0x22 ∧ t.l = 0x11 ∧ t.mem.read 0x0000 = 0xAA ∧ t.mem.read 0xFFFF = 0xBB ∧
    t.flags = ⟨false, false, false, false, false⟩ ∧ t.pc = 0x0101 := by decide

theorem test_H_9 :
    let t := after { start 0x0100 [0xF9] with h := 0x00, l := 0x01 }
    t.sp = 0x0001 ∧ t.flags = ⟨false, false, false, false, false⟩ ∧ t.pc = 0x0101 := by decide

theorem test_H_10 :
    let t := after { start 0x0100 [0xC5] with b := 0xAA, c := 0xBB, sp := 0x0102 }
    t.sp = 0x0100 ∧ t.mem.read 0x0100 = 0xBB ∧ t.mem.read 0x0101 = 0xAA ∧
    t.flags = ⟨false, false, false, false, false⟩ ∧ t.pc = 0x0101 := by decide

theorem test_I_1 :
    let t := after (start 0xFFFD [0xC3, 0x00, 0x00])
    t.flags = ⟨false, false, false, false, false⟩ ∧ t.pc = 0x0000 := by decide

theorem test_I_2 :
    let t := after ((start 0xFFFE [0xC3, 0x34, 0x12]).loadBytes 0x0000 [0x12])
    t.flags = ⟨false, false, false, false, false⟩ ∧ t.pc = 0x1234 := by decide

theorem test_I_3 :
    let t := after (start 0x0100 [0xC2, 0x00, 0x30])
    t.flags = ⟨false, false, false, false, false⟩ ∧ t.pc = 0x3000 := by decide

theorem test_I_4 :
    let t := after { start 0x0100 [0xC2, 0x00, 0x30] with flags := ⟨true, false, false, false, false⟩ }
    t.flags = ⟨true, false, false, false, false⟩ ∧ t.pc = 0x0103 := by decide

theorem test_I_5 :
    let t := after { start 0x0100 [0xCA, 0x00, 0x30] with flags := ⟨true, false, false, false, false⟩ }
    t.flags = ⟨true, false, false, false, false⟩ ∧ t.pc = 0x3000 := by decide

theorem test_I_8 :
    let t := after { start 0x0100 [0xD2, 0x00, 0x30] with flags := ⟨false, false, false, true, false⟩ }
    t.flags = ⟨false, false, false, true, false⟩ ∧ t.pc = 0x0103 := by decide

theorem test_I_9 :
    let t := after { start 0x0100 [0xDA, 0x00, 0x30] with flags := ⟨false, false, false, true, false⟩ }
    t.flags = ⟨false, false, false, true, false⟩ ∧ t.pc = 0x3000 := by decide

theorem test_I_12 :
    let t := after { start 0x0100 [0xE2, 0x00, 0x30] with flags := ⟨false, false, true, false, false⟩ }
    t.flags = ⟨false, false, true, false, false⟩ ∧ t.pc = 0x0103 := by decide

theorem test_I_13 :
    let t := after { start 0x0100 [0xEA, 0x00, 0x30] with flags := ⟨false, false, true, false, false⟩ }
    t.flags = ⟨false, false, true, false, false⟩ ∧ t.pc = 0x3000 := by decide

theorem test_I_16 :
    let t := after { start 0x0100 [0xF2, 0x00, 0x30] with flags := ⟨false, true, false, false, false⟩ }
    t.flags = ⟨false, true, false, false, false⟩ ∧ t.pc = 0x0103 := by decide

theorem test_I_17 :
    let t := after { start 0x0100 [0xFA, 0x00, 0x30] with flags := ⟨false, true, false, false, false⟩ }
    t.flags = ⟨false, true, false, false, false⟩ ∧ t.pc = 0x3000 := by decide

theorem test_I_19 :
    let t := after { start 0x0100 [0xE9] with h := 0xFF, l := 0xFF }
    t.flags = ⟨false, false, false, false, false⟩ ∧ t.pc = 0xFFFF := by decide

theorem test_J_1 :
    let t := after (start 0x1000 [0xCD, 0x00, 0x40])
    t.sp = 0x23FE ∧ t.mem.read 0x23FE = 0x03 ∧ t.mem.read 0x23FF = 0x10 ∧
    t.flags = ⟨false, false, false, false, false⟩ ∧ t.pc = 0x4000 := by decide

theorem test_J_2 :
    let t := after (((((start 0xFFFD [0xCD, 0x00, 0x40]).loadBytes 0x23FE [0xFF]).loadBytes 0x23FF [0xFF]).loadBytes 0xFFFE [0x00]).loadBytes 0xFFFF [0x40])
    t.sp = 0x23FE ∧ t.mem.read 0x23FE = 0x00 ∧ t.mem.read 0x23FF = 0x00 ∧
    t.flags = ⟨false, false, false, false, false⟩ ∧ t.pc = 0x4000 := by decide

theorem test_J_3 :
    let t := after { ((start 0x0100 [0xC9]).loadBytes 0x23FE [0x03]).loadBytes 0x23FF [0x10] with sp := 0x23FE }
    t.sp = 0x2400 ∧ t.flags = ⟨false, false, false, false, false⟩ ∧ t.pc = 0x1003 := by decide

theorem test_J_4 :
    let t := after { ((start 0x0100 [0xC9]).loadBytes 0x0000 [0xC9]).loadBytes 0xFFFF [0x00] with sp := 0xFFFF }
    t.sp = 0x0001 ∧ t.flags = ⟨false, false, false, false, false⟩ ∧ t.pc = 0xC900 := by decide

theorem test_J_7 :
    let t := after { start 0x0100 [0xCC, 0x00, 0x30] with flags := ⟨true, false, false, false, false⟩ }
    t.sp = 0x23FE ∧ t.mem.read 0x23FE = 0x03 ∧ t.mem.read 0x23FF = 0x01 ∧
    t.flags = ⟨true, false, false, false, false⟩ ∧ t.pc = 0x3000 := by decide

theorem test_J_8 :
    let t := after (start 0x0100 [0xCC, 0x00, 0x30])
    t.flags = ⟨false, false, false, false, false⟩ ∧ t.pc = 0x0103 := by decide

theorem test_J_14 :
    let t := after { start 0x0100 [0xE4, 0x00, 0x30] with flags := ⟨false, false, true, false, false⟩ }
    t.flags = ⟨false, false, true, false, false⟩ ∧ t.pc = 0x0103 := by decide

theorem test_J_19 :
    let t := after { start 0x0100 [0xFC, 0x00, 0x30] with flags := ⟨false, true, false, false, false⟩ }
    t.sp = 0x23FE ∧ t.mem.read 0x23FE = 0x03 ∧ t.mem.read 0x23FF = 0x01 ∧
    t.flags = ⟨false, true, false, false, false⟩ ∧ t.pc = 0x3000 := by decide

theorem test_J_23 :
    let t := after { ((start 0x0100 [0xC8]).loadBytes 0x23FE [0x00]).loadBytes 0x23FF [0x50] with sp := 0x23FE, flags := ⟨true, false, false, false, false⟩ }
    t.sp = 0x2400 ∧ t.flags = ⟨true, false, false, false, false⟩ ∧ t.pc = 0x5000 := by decide

theorem test_J_24 :
    let t := after { ((start 0x0100 [0xC8]).loadBytes 0x23FE [0x00]).loadBytes 0x23FF [0x50] with sp := 0x23FE }
    t.flags = ⟨false, false, false, false, false⟩ ∧ t.pc = 0x0101 := by decide

theorem test_J_30 :
    let t := after { ((start 0x0100 [0xE0]).loadBytes 0x23FE [0x00]).loadBytes 0x23FF [0x50] with sp := 0x23FE, flags := ⟨false, false, true, false, false⟩ }
    t.flags = ⟨false, false, true, false, false⟩ ∧ t.pc = 0x0101 := by decide

theorem test_J_35 :
    let t := after { ((start 0x0100 [0xF8]).loadBytes 0x23FE [0x00]).loadBytes 0x23FF [0x50] with sp := 0x23FE, flags := ⟨false, true, false, false, false⟩ }
    t.sp = 0x2400 ∧ t.flags = ⟨false, true, false, false, false⟩ ∧ t.pc = 0x5000 := by decide

theorem test_J_38 :
    let t := after (start 0x0200 [0xCF])
    t.sp = 0x23FE ∧ t.mem.read 0x23FE = 0x01 ∧ t.mem.read 0x23FF = 0x02 ∧
    t.flags = ⟨false, false, false, false, false⟩ ∧ t.pc = 0x0008 := by decide

theorem test_J_45 :
    let t := after (((start 0x0038 [0xFF]).loadBytes 0x23FE [0xFF]).loadBytes 0x23FF [0xFF])
    t.sp = 0x23FE ∧ t.mem.read 0x23FE = 0x39 ∧ t.mem.read 0x23FF = 0x00 ∧
    t.flags = ⟨false, false, false, false, false⟩ ∧ t.pc = 0x0038 := by decide

theorem test_K_3 :
    let t := after { start 0x0100 [0xD3, 0xFE] with a := 0x7E }
    t.io = [.output 0xFE 0x7E] ∧ t.flags = ⟨false, false, false, false, false⟩ ∧ t.pc = 0x0102 := by decide

theorem test_K_4 :
    let t := after (start 0x0100 [0xFB])
    t.inte = true ∧ t.flags = ⟨false, false, false, false, false⟩ ∧ t.pc = 0x0101 := by decide

theorem test_K_6 :
    let t := after { start 0x0100 [0xF3] with inte := true }
    t.inte = false ∧ t.flags = ⟨false, false, false, false, false⟩ ∧ t.pc = 0x0101 := by decide

theorem test_K_7 :
    let t := after (start 0xFFFF [0x00])
    t.flags = ⟨false, false, false, false, false⟩ ∧ t.pc = 0x0000 := by decide

theorem test_K_8 :
    let t := after ((start 0xFFFF [0x06, 0x77]).loadBytes 0x0000 [0x77])
    t.b = 0x77 ∧ t.flags = ⟨false, false, false, false, false⟩ ∧ t.pc = 0x0001 := by decide

theorem test_K_9 :
    let t := after (start 0xFFFF [0x76])
    t.flags = ⟨false, false, false, false, false⟩ ∧ t.pc = 0x0000 ∧ t.status = .halted := by decide

theorem test_L_5 :
    let t := after { start 0x0300 [0x27, 0x34, 0x12] with a := 0x09 }
    t.flags = ⟨false, false, false, false, false⟩ ∧ t.pc = 0x0300 ∧ t.status = .faulted 0x27 0x0300 := by decide

theorem test_L_9 :
    let t := after { start 0x0300 [0xCB, 0x34, 0x12] with a := 0x09 }
    t.flags = ⟨false, false, false, false, false⟩ ∧ t.pc = 0x0300 ∧ t.status = .faulted 0xCB 0x0300 := by decide

theorem test_L_14 :
    let t := after { start 0xFFFF [0x27] with a := 0x9A, flags := ⟨false, false, false, true, false⟩ }
    t.flags = ⟨false, false, false, true, false⟩ ∧ t.pc = 0xFFFF ∧ t.status = .faulted 0x27 0xFFFF := by decide

theorem test_M_2 :
    let t := after { start 0x0100 [0x3C] with a := 0x01, status := .faulted 0x08 0x0100 }
    t.flags = ⟨false, false, false, false, false⟩ ∧ t.pc = 0x0100 ∧ t.status = .faulted 0x08 0x0100 := by decide

/-- K-1: what the spec fixes of an IN, and that A holds the byte delivered, whatever it is. -/
theorem test_K_1 :
    let s := { start 0x0100 [0xDB, 0x10] with a := 0x55 }
    let t := after s
    t.flags = s.flags ∧ t.pc = 0x0102 ∧ t.a = s.ioIn 0x10 := ⟨rfl, rfl, rfl⟩

/-- R71: CALL's accesses, its three bytes ascending, then the high byte at SP-1, then the low byte at SP-2. -/
theorem test_order_of_accesses :
    (start 0x1000 [0xCD, 0x00, 0x40]).accesses =
      [.fetch 0x1000 0xCD, .fetch 0x1001 0x00, .fetch 0x1002 0x40, .write 0x23FF 0x10, .write 0x23FE 0x03] := by
  decide

/-- R71: LHLD reads the low byte first; its second address wraps. -/
theorem test_order_of_a_word_read :
    (start 0x0100 [0x2A, 0xFF, 0xFF]).accesses =
      [.fetch 0x0100 0x2A, .fetch 0x0101 0xFF, .fetch 0x0102 0xFF, .read 0xFFFF 0x00, .read 0x0000 0x00] := by decide

/-! ## Placing a word for the host -/

/-- The table's two bytes of MVI B, the first at the low bits. -/
theorem test_table_word_two_bytes : decodeTableWord 16 0x7706 = some (.mviB 0x77) := rfl

/-- A row the table gives 8 bits: the operand bytes are zero. -/
theorem test_table_word_short : decodeTableWord 8 0xC3 = some (.jmp 0x0000) := rfl

/-- A word placed in a Halted state is what the next step runs. -/
theorem test_placed_word :
    step ({ State.reset with status := .halted }.withFetchWord 16 0x7706) =
      exec (.mviB 0x77) ({ State.reset with status := .halted }.withFetchWord 16 0x7706) := rfl

/-! ## Witnesses: the hypotheses of the obligations can be met, for every clause, at the edges of its range -/

theorem witness_EncodeOfDecode : decode [0x31, 0xFF, 0xFF, 0x76] = .ok (.lxiSp 0xFFFF) [0x76] := rfl

theorem witness_DecodeTotal :
    decode [0xC3, 0x00] = .missingOperand 0xC3 ∧ 1 + [0x00].length < opcodeLength 0xC3 ∧
    decode [0xC3, 0x00, 0xFF] = .ok (.jmp 0xFF00) [] ∧ opcodeLength 0xC3 ≤ 1 + [0x00, 0xFF].length ∧
    decode [0x76] = .ok .hlt [] ∧ opcodeLength 0x76 ≤ 1 + ([] : List Byte).length :=
  ⟨rfl, by decide, rfl, by decide, rfl, by decide⟩

/-- The instruction lies over the top of memory. -/
theorem witness_StepRunsDecoded :
    let s := start 0xFFFE [0xC3, 0x34, 0x12]
    s.status = .running ∧ decode (s.mem.bytesAt s.pc 4) = .ok (.jmp 0x1234) [0x00] := ⟨rfl, rfl⟩

theorem witness_WordAccessIsLittleEndian :
    (0x0001 : Word) ≠ 0xFFFF ∧ (0x0001 : Word) ≠ 0xFFFF + 1 ∧
    ((State.reset.mem.writeWord 0xFFFF 0x1234).read 0xFFFF, (State.reset.mem.writeWord 0xFFFF 0x1234).read 0x0000,
      (State.reset.mem.writeWord 0xFFFF 0x1234).read 0x0001) = (0x34, 0x12, 0x00) := by decide

/-- Two memories built by the same two writes, one over a third byte in between. -/
theorem witness_CanonicalMemoryIsItsContent :
    let m := (State.reset.mem.write 0xFFFF 0x01).write 0x0000 0x02
    let n := (((State.reset.mem.write 0x0000 0x02).write 0x8000 0x03).write 0xFFFF 0x01).write 0x8000 0x00
    m.wf ∧ n.wf ∧ ∀ x : Word, m.read x = n.read x := ⟨by decide, by decide, fun _ => rfl⟩

/-- An image that wraps: its last byte is at 0x0000, and 0x0001 keeps its value. -/
theorem witness_LoaderPlacesTheImage :
    let m := State.reset.mem.load 0xFFFF [0x11, 0x22]
    [0x11, 0x22].length ≤ 65536 ∧ m.read 0xFFFF = 0x11 ∧ m.read 0x0000 = 0x22 ∧ m.read 0x0001 = 0x00 := by decide

/-- Each pair, with SP at the bottom of memory, where both pushed bytes wrap. -/
theorem witness_PushThenPopRestores :
    let s := { start 0x0100 [] with sp := 0x0000 }
    ∀ p : Rps, ∃ i j t u, i.form = .push p ∧ j.form = .pop p ∧ exec i s = .next t ∧ exec j t = .next u
  | .bc => ⟨.pushB, .popB, _, _, rfl, rfl, rfl, rfl⟩
  | .de => ⟨.pushD, .popD, _, _, rfl, rfl, rfl, rfl⟩
  | .hl => ⟨.pushH, .popH, _, _, rfl, rfl, rfl, rfl⟩
  | .psw => ⟨.pushPsw, .popPsw, _, _, rfl, rfl, rfl, rfl⟩

theorem witness_MovRegisterRegister : Instr.movDL.form = .movRR .d .l ∧ Instr.movAA.form = .movRR .a .a := ⟨rfl, rfl⟩

theorem witness_ByteLoads : Instr.movHM.form = .movRM .h ∧ Instr.movLM.form = .movRM .l := ⟨rfl, rfl⟩

theorem witness_ByteStores : Instr.movMH.form = .movMR .h ∧ Instr.movMA.form = .movMR .a := ⟨rfl, rfl⟩

theorem witness_ImmediateLoads : (Instr.mviA 0xFF).form = .mvi .a 0xFF := rfl

theorem witness_AddInstructions :
    Instr.addA.form = AluSource.form .add (.register .a) ∧ Instr.addM.form = AluSource.form .add .memory ∧
    (Instr.adi 0xFF).form = AluSource.form .add (.immediate 0xFF) := ⟨rfl, rfl, rfl⟩

theorem witness_AdcInstructions :
    Instr.adcB.form = AluSource.form .adc (.register .b) ∧ Instr.adcM.form = AluSource.form .adc .memory ∧
    (Instr.aci 0xFF).form = AluSource.form .adc (.immediate 0xFF) := ⟨rfl, rfl, rfl⟩

theorem witness_SubInstructions :
    Instr.subA.form = AluSource.form .sub (.register .a) ∧ Instr.subM.form = AluSource.form .sub .memory ∧
    (Instr.sui 0x80).form = AluSource.form .sub (.immediate 0x80) := ⟨rfl, rfl, rfl⟩

theorem witness_SbbInstructions :
    Instr.sbbA.form = AluSource.form .sbb (.register .a) ∧ Instr.sbbM.form = AluSource.form .sbb .memory ∧
    (Instr.sbi 0xFF).form = AluSource.form .sbb (.immediate 0xFF) := ⟨rfl, rfl, rfl⟩

theorem witness_LogicInstructions :
    (Instr.anaB.form = AluSource.form .ana (.register .b) ∧ (Instr.ani 0x00).form = AluSource.form .ana (.immediate 0x00)) ∧
    (Instr.xraA.form = AluSource.form .xra (.register .a) ∧ Instr.xraM.form = AluSource.form .xra .memory) ∧
    (Instr.oraL.form = AluSource.form .ora (.register .l) ∧ (Instr.ori 0xFF).form = AluSource.form .ora (.immediate 0xFF)) :=
  ⟨⟨rfl, rfl⟩, ⟨rfl, rfl⟩, ⟨rfl, rfl⟩⟩

theorem witness_CompareInstructions :
    Instr.cmpA.form = AluSource.form .cmp (.register .a) ∧ Instr.cmpM.form = AluSource.form .cmp .memory ∧
    (Instr.cpi 0xFF).form = AluSource.form .cmp (.immediate 0xFF) := ⟨rfl, rfl, rfl⟩

theorem witness_IncDecRegister : Instr.inrB.form = .inr .b ∧ Instr.dcrA.form = .dcr .a := ⟨rfl, rfl⟩

theorem witness_IncDecPair :
    Instr.inxB.form = .inx .bc ∧ Instr.inxSp.form = .inx .sp ∧ Instr.dcxH.form = .dcx .hl ∧ Instr.dcxSp.form = .dcx .sp :=
  ⟨rfl, rfl, rfl, rfl⟩

theorem witness_DoubleAdd : Instr.dadH.form = .dad .hl ∧ Instr.dadSp.form = .dad .sp := ⟨rfl, rfl⟩

theorem witness_PushInstructions : Instr.pushB.form = .push .bc ∧ Instr.pushPsw.form = .push .psw := ⟨rfl, rfl⟩

theorem witness_PopInstructions : Instr.popH.form = .pop .hl ∧ Instr.popPsw.form = .pop .psw := ⟨rfl, rfl⟩

/-- A jump taken, and one not taken. -/
theorem witness_ConditionalJumps :
    (Instr.jnz 0xFFFF).form = .jcc .nz 0xFFFF ∧ State.reset.flags.cond .nz = true ∧
    (Instr.jm 0x0000).form = .jcc .m 0x0000 ∧ State.reset.flags.cond .m = false := ⟨rfl, rfl, rfl, rfl⟩

/-- A call taken, and one not taken. -/
theorem witness_Calls :
    ((Instr.cpo 0xFFFF).form = .ccc .po 0xFFFF ∧ State.reset.flags.cond .po = true) ∧
    (Instr.cpe 0x0000).form = .ccc .pe 0x0000 ∧ State.reset.flags.cond .pe = false := ⟨⟨rfl, rfl⟩, rfl, rfl⟩

/-- A return taken, and one not taken. -/
theorem witness_Returns :
    (Instr.rnc.form = .rcc .nc ∧ State.reset.flags.cond .nc = true) ∧
    Instr.rc.form = .rcc .c ∧ State.reset.flags.cond .c = false := ⟨⟨rfl, rfl⟩, rfl, rfl⟩

theorem witness_Restarts : Instr.rst0.form = .rst 0 ∧ Instr.rst7.form = .rst 7 := ⟨rfl, rfl⟩

/-- The lowest and the highest of the thirteen, and an instruction that is none of them. -/
theorem witness_UnimplementedOpcodes :
    ((encode .undocumented08).head? = some 0x08 ∧ isUnimplemented Instr.undocumented08.form = true) ∧
    ((encode .daa).head? = some 0x27 ∧ isUnimplemented Instr.daa.form = true) ∧
    ((encode .undocumentedFD).head? = some 0xFD ∧ isUnimplemented Instr.undocumentedFD.form = true) ∧
    ((encode .rst7).head? = some 0xFF ∧ isUnimplemented Instr.rst7.form = false) ∧
    (start 0xFFFF [0xFD]).status = .running ∧ (start 0xFFFF [0xFD]).fetchInstr = .undocumentedFD :=
  ⟨⟨rfl, rfl⟩, ⟨rfl, rfl⟩, ⟨rfl, rfl⟩, ⟨rfl, rfl⟩, rfl, rfl⟩

/-- Each case of the rule: a target, a fall-through that wraps, a fault. -/
theorem witness_ProgramCounterRule :
    let s := start 0xFFFF []
    (∃ t, step { s with status := .halted } = .next t ∧ Status.halted ≠ .running) ∧
    (∃ t, exec (.jmp 0x1234) s = .next t ∧ t.pc = 0x1234) ∧ (∃ t, exec (.lxiB 0) s = .next t ∧ t.pc = 0x0002) ∧
    (∃ t, exec (.jz 0x1234) s = .next t ∧ t.pc = 0x0002) ∧ ∃ t, exec .daa s = .next t ∧ t.pc = 0xFFFF :=
  ⟨⟨_, rfl, by decide⟩, ⟨_, rfl, by decide⟩, ⟨_, rfl, by decide⟩, ⟨_, rfl, by decide⟩, ⟨_, rfl, by decide⟩⟩

theorem witness_RegisterWriters :
    (∃ t, exec .cmpB State.reset = .next t ∧ Reg8.a ∉ writtenRegs Instr.cmpB.form) ∧
    ∃ t, exec .dcxD State.reset = .next t ∧ Reg8.c ∉ writtenRegs Instr.dcxD.form :=
  ⟨⟨_, rfl, by decide⟩, ⟨_, rfl, by decide⟩⟩

/-- Each clause: no Z, S or P written by DAD, no CY written by INR. -/
theorem witness_FlagWriters :
    (∃ t, exec .dadB State.reset = .next t ∧ writesZSP Instr.dadB.form = false) ∧
    ∃ t, exec .inrA State.reset = .next t ∧ writesCY Instr.inrA.form = false := ⟨⟨_, rfl, rfl⟩, ⟨_, rfl, rfl⟩⟩

/-- Every clause's condition, by one instruction. -/
theorem witness_ControlStateWriters :
    ∃ t, exec .nop State.reset = .next t ∧ writesSP Instr.nop.form = false ∧ Instr.nop ≠ .ei ∧ Instr.nop ≠ .di ∧
      Instr.nop ≠ .hlt ∧ isUnimplemented Instr.nop.form = false ∧
      (∀ port, Instr.nop ≠ .inPort port) ∧ ∀ port, Instr.nop ≠ .outPort port :=
  ⟨_, rfl, rfl, by decide, by decide, by decide, rfl, by simp, by simp⟩

theorem witness_InteGatesNothing :
    ∃ t, exec .rst7 State.reset = .next t ∧ Instr.rst7 ≠ .ei ∧ Instr.rst7 ≠ .di := ⟨_, rfl, by decide, by decide⟩

/-- Running and ended. -/
theorem witness_IoRecordIsNeverRead :
    (∃ t, step (start 0x0100 [0xD3, 0xFE]) = .next t) ∧
    ∃ t, step { start 0x0100 [0xD3, 0xFE] with status := .halted } = .next t := ⟨⟨_, rfl⟩, ⟨_, rfl⟩⟩

theorem witness_AccessesAccountForTheStep :
    let s := { start 0x0100 [0x34] with h := 0x20 }
    (∃ t, step s = .next t) ∧ .read 0x2000 0x00 ∈ s.accesses ∧ .fetch 0x0100 0x34 ∈ s.accesses :=
  ⟨⟨_, rfl⟩, by decide, by decide⟩

/-- Reset meets the invariant, and so does a Faulted state over an opcode with no handler. -/
theorem witness_PushedFlagByte : Inv State.reset :=
  ⟨by decide, rfl, fun _ _ h => by cases h⟩

theorem witness_StepKeepsInvariant :
    (Inv State.reset ∧ ∃ t, step State.reset = .next t) ∧
    (let s := { start 0x0300 [0xFD] with status := .faulted 0xFD 0x0300 }
     Inv s ∧ ∃ t, step s = .next t) :=
  ⟨⟨witness_PushedFlagByte, _, rfl⟩,
    ⟨by decide, rfl, fun _ _ h => by cases h; exact ⟨rfl, by decide, by decide⟩⟩, _, rfl⟩

theorem witness_ResetMeetsInvariant : Memory.wf [(0x0000, 0x3E), (0xFFFF, 0x76)] := by decide

theorem witness_EndedRunStays :
    Ended { State.reset with status := .halted } ∧ Ended { State.reset with status := .faulted 0x27 0x0004 } := by
  simp [Ended]

/-- A run that ends normally and one that ends in a fault, each by its step. -/
theorem witness_EveryStepCompletes :
    (let s := start 0x0100 [0x76]
     ∃ t, step s = .next t ∧ s.status = .running ∧ EndedNormally t) ∧
    (let s := start 0x0100 [0x27]
     ∃ t, step s = .next t ∧ s.status = .running ∧ EndedInFault t) :=
  ⟨⟨_, rfl, rfl, rfl⟩, ⟨_, rfl, rfl, _, _, rfl⟩⟩


end Sys2Proof.Tests
end

section
/-!
The state itself: what reset constructs (10_state.md R34) and the register pairs as views of the byte registers (R22, R23).
-/

namespace Sys2Proof.Machine

/-! ## Reset -/

/-- Every byte register is 0x00 after reset (R34). -/
@[simp] theorem State.resetWith_reg (spInit pcInit : Word) (m : Memory) (q : Reg8) :
    (State.resetWith spInit pcInit m).reg q = 0x00 := by
  cases q <;> rfl

/-- Settles O9: the registers by `State.resetWith_reg`, every other field by the record reset constructs. -/
theorem resetConstructsTheState : Obligations.ResetConstructsTheState := by
  intro spInit pcInit m
  exact ⟨State.resetWith_reg spInit pcInit m, rfl, rfl, rfl, rfl, rfl, rfl, rfl, rfl, rfl, fun _ => rfl⟩

/-! ## Register pairs -/

theorem State.bc_toNat (s : State) : s.bc.toNat = s.b.toNat * 256 + s.c.toNat := word_toNat s.b s.c

theorem State.de_toNat (s : State) : s.de.toNat = s.d.toNat * 256 + s.e.toNat := word_toNat s.d s.e

theorem State.hl_toNat (s : State) : s.hl.toNat = s.h.toNat * 256 + s.l.toNat := word_toNat s.h s.l

@[simp] theorem State.setBC_bc (s : State) (v : Word) : (s.setBC v).bc = v := word_hi_lo v

@[simp] theorem State.setDE_de (s : State) (v : Word) : (s.setDE v).de = v := word_hi_lo v

@[simp] theorem State.setHL_hl (s : State) (v : Word) : (s.setHL v).hl = v := word_hi_lo v

/-- Settles O11: a pair is the number its two bytes give, read from the state before or after the write; a pair write is
the two halves of the word. -/
theorem pairsAreViews : Obligations.PairsAreViews := by
  intro s v x
  have hi : (hiByte v).toNat = v.toNat / 256 := hiByte_toNat v
  have lo : (loByte v).toNat = v.toNat % 256 := loByte_toNat v
  refine ⟨s.bc_toNat, s.de_toNat, s.hl_toNat, ⟨hi, lo, s.setBC_bc v⟩, ⟨hi, lo, s.setDE_de v⟩, ⟨hi, lo, s.setHL_hl v⟩,
    ?_, ?_, ?_, ?_, ?_, ?_⟩
  · exact (s.setReg .c x).bc_toNat
  · exact (s.setReg .b x).bc_toNat
  · exact (s.setReg .e x).de_toNat
  · exact (s.setReg .d x).de_toNat
  · exact (s.setReg .l x).hl_toNat
  · exact (s.setReg .h x).hl_toNat

end Sys2Proof.Machine
end

section
/-!
INTE and the record of past I/O events: no instruction lets anything else depend on them (10_state.md R32, 20_memory.md
R70). The two are disturbed together, so that one case split over the forms serves both.
-/

namespace Sys2Proof.Machine

/-- INTE put through a function and past events set before the recorded ones. -/
def State.disturb (f : Bool → Bool) (past : List IoEvent) (s : State) : State :=
  { s with inte := f s.inte, io := past ++ s.io }

/-- An outcome with its next state put through a function. -/
def Result.mapNext (g : State → State) : Result → Result
  | .next s => .next (g s)
  | .fault r => .fault r
  | .refused r => .refused r

section

variable (f : Bool → Bool) (past : List IoEvent) (s : State)

/-! ## Reads do not see the disturbance -/

theorem State.reg_disturb (r : Reg8) : (s.disturb f past).reg r = s.reg r := by cases r <;> rfl

theorem State.rp_disturb (p : Rp) : (s.disturb f past).rp p = s.rp p := by cases p <;> rfl

theorem State.rps_disturb (p : Rps) : (s.disturb f past).rps p = s.rps p := by cases p <;> rfl

theorem State.ind_disturb (p : Ind) : (s.disturb f past).ind p = s.ind p := by cases p <;> rfl

/-! ## Writes commute with it -/

theorem State.setReg_disturb (r : Reg8) (v : Byte) :
    (s.disturb f past).setReg r v = (s.setReg r v).disturb f past := by cases r <;> rfl

theorem State.setRp_disturb (p : Rp) (v : Word) :
    (s.disturb f past).setRp p v = (s.setRp p v).disturb f past := by cases p <;> rfl

theorem State.setRps_disturb (p : Rps) (v : Word) :
    (s.disturb f past).setRps p v = (s.setRps p v).disturb f past := by cases p <;> rfl

theorem State.drop16_disturb : (s.disturb f past).drop16 = s.drop16.disturb f past := rfl

theorem State.drawn_disturb (port : Byte) :
    (s.disturb f past).drawn port = (s.drawn port).disturb f past := by
  simp only [State.drawn, State.disturb, State.ioIn, List.append_assoc]

theorem State.ioOut_disturb (port v : Byte) :
    (s.disturb f past).ioOut port v = (s.ioOut port v).disturb f past := by
  simp only [State.ioOut, State.disturb, List.append_assoc]

/-! ## So does every instruction -/

/-- A form's meaning commutes with the disturbance; EI and DI do where `f` keeps the value they write. An operand chosen by
a field goes by the lemma of its read or write, a condition by its two cases; the other forms name their fields. -/
theorem execForm_disturb (form : Form) (hei : form = .ei → f true = true) (hdi : form = .di → f false = false) :
    execForm form (s.disturb f past) = Result.mapNext (State.disturb f past) (execForm form s) := by
  cases form with
  | ei => simp only [execForm, enableInterrupts, Result.mapNext, State.disturb, State.advance, hei]
  | di => simp only [execForm, disableInterrupts, Result.mapNext, State.disturb, State.advance, hdi]
  | movRR | movRM | movMR | mvi | aluR | inr | dcr =>
    simp only [execForm, moveRegister, moveFromM, moveToM, moveImmediate, aluRegister, incrementRegister,
      decrementRegister, State.reg_disturb, State.setReg_disturb]
    rfl
  | lxi | inx | dcx | dad =>
    simp only [execForm, loadPairImmediate, incrementPair, decrementPair, doubleAdd, State.rp_disturb,
      State.setRp_disturb]
    rfl
  | ldax | stax => simp only [execForm, loadIndirect, storeIndirect, State.ind_disturb]; rfl
  | push | pop =>
    simp only [execForm, pushPair, popPair, State.rps_disturb, State.drop16_disturb, State.setRps_disturb]
    rfl
  | inPort port => simp only [execForm, inputFrom, State.drawn_disturb]; rfl
  | outPort port => simp only [execForm, outputTo, State.ioOut_disturb]; rfl
  | jcc cc addr => simp only [execForm, jumpIf_eq]; rfl
  | ccc cc addr =>
    have hcond : (s.disturb f past).flags = s.flags := rfl
    simp only [execForm, callIf_eq, hcond]
    split <;> rfl
  | rcc cc =>
    have hcond : (s.disturb f past).flags = s.flags := rfl
    simp only [execForm, returnIf_eq, hcond]
    split <;> rfl
  | nop | hlt | mviM | lda | sta | lhld | shld | xchg | aluM | aluI | inrM | dcrM | daa | rlc | rrc | ral | rar | stc | cmc
  | cma | xthl | sphl | jmp | call | ret | rst | pchl | undocumented => rfl

/-- Only EI has its form. -/
theorem Instr.form_eq_ei {i : Instr} (h : i.form = .ei) : i = .ei := by
  cases i with
  | ei => rfl
  | _ => cases h

/-- Only DI has its form. -/
theorem Instr.form_eq_di {i : Instr} (h : i.form = .di) : i = .di := by
  cases i with
  | di => rfl
  | _ => cases h

/-- An instruction's meaning commutes with the disturbance (R32, R70). -/
theorem exec_disturb (i : Instr) (hei : i = .ei → f true = true) (hdi : i = .di → f false = false) :
    exec i (s.disturb f past) = Result.mapNext (State.disturb f past) (exec i s) := by
  rw [exec_eq_execForm, exec_eq_execForm]
  exact execForm_disturb f past s i.form (fun h => hei (Instr.form_eq_ei h)) (fun h => hdi (Instr.form_eq_di h))

end

/-- Settles O54: INTE put to `b` is the disturbance by the constant `b` with no past events, and `exec_disturb` carries it
through every instruction but EI and DI. -/
theorem inteGatesNothing : Obligations.InteGatesNothing := by
  refine ⟨fun s => ⟨rfl, rfl⟩, fun i s t b hei hdi hexec => ?_⟩
  calc exec i { s with inte := b }
      = Result.mapNext (State.disturb (fun _ => b) []) (exec i s) :=
        exec_disturb (fun _ => b) [] s i (fun h => absurd h hei) (fun h => absurd h hdi)
    _ = .next { t with inte := b } := by rw [hexec]; rfl

end Sys2Proof.Machine
end

section
/-!
Word accesses to memory (20_memory.md R54): low byte at the address, high byte at its successor modulo 65536.
-/

namespace Sys2Proof.Machine

theorem Word.ne_add_one (addr : Word) : addr ≠ addr + 1 := by bv_omega

theorem Memory.readWord_toNat (m : Memory) (addr : Word) :
    (m.readWord addr).toNat = (m.read (addr + 1)).toNat * 256 + (m.read addr).toNat :=
  word_toNat (m.read (addr + 1)) (m.read addr)

/-- The low byte is not overwritten by the high one, since an address differs from its successor even at 0xFFFF. -/
@[simp] theorem Memory.read_writeWord_same (m : Memory) (addr v : Word) :
    (m.writeWord addr v).read addr = loByte v := by
  rw [Memory.read_writeWord, if_neg (Word.ne_add_one addr), if_pos rfl]

@[simp] theorem Memory.read_writeWord_succ (m : Memory) (addr v : Word) :
    (m.writeWord addr v).read (addr + 1) = hiByte v := by
  rw [Memory.read_writeWord, if_pos rfl]

theorem Memory.read_writeWord_ne (m : Memory) (addr v x : Word) (hlo : x ≠ addr) (hhi : x ≠ addr + 1) :
    (m.writeWord addr v).read x = m.read x := by
  rw [Memory.read_writeWord, if_neg hhi, if_neg hlo]

@[simp] theorem Memory.readWord_writeWord (m : Memory) (addr v : Word) :
    (m.writeWord addr v).readWord addr = v := by
  rw [Memory.readWord, Memory.read_writeWord_succ, Memory.read_writeWord_same, word_hi_lo]

/-- Settles O12: the number of a word read, the word read back, each of the two bytes, and the frame, a lemma each. -/
theorem wordAccessIsLittleEndian : Obligations.WordAccessIsLittleEndian := by
  intro m addr v
  have low : ((m.writeWord addr v).read addr).toNat = v.toNat % 256 := by
    rw [Memory.read_writeWord_same, loByte_toNat]
  have high : ((m.writeWord addr v).read (addr + 1)).toNat = v.toNat / 256 := by
    rw [Memory.read_writeWord_succ, hiByte_toNat]
  exact ⟨m.readWord_toNat addr, m.readWord_writeWord addr v, low, high, m.read_writeWord_ne addr v⟩

end Sys2Proof.Machine
end

section
/-!
Fetch and decode (30_encoding.md R80-R96): what the decoder answers for each kind of entry of the opcode map, that a step in
Running fetches the instruction the bytes at PC decode to, and the conditions of R90.
-/

namespace Sys2Proof

/-! ## The decoder, by the kind of the opcode's entry -/

theorem decode_one {op : Byte} {i : Instr} (h : lut op = .one i) (rest : List Byte) :
    decode (op :: rest) = .ok i rest := by
  simp only [decode, h]

theorem decode_two {op : Byte} {f : Byte → Instr} (h : lut op = .two f) (b2 : Byte) (rest : List Byte) :
    decode (op :: b2 :: rest) = .ok (f b2) rest := by
  simp only [decode, h]

theorem decode_two_missing {op : Byte} {f : Byte → Instr} (h : lut op = .two f) :
    decode [op] = .missingOperand op := by
  simp only [decode, h]

theorem decode_three {op : Byte} {f : Word → Instr} (h : lut op = .three f) (b2 b3 : Byte) (rest : List Byte) :
    decode (op :: b2 :: b3 :: rest) = .ok (f (imm16 b2 b3)) rest := by
  simp only [decode, h]

theorem decode_three_missing {op : Byte} {f : Word → Instr} (h : lut op = .three f) :
    decode [op] = .missingOperand op := by
  simp only [decode, h]

theorem decode_three_missing_high {op : Byte} {f : Word → Instr} (h : lut op = .three f) (b2 : Byte) :
    decode [op, b2] = .missingOperand op := by
  simp only [decode, h]

end Sys2Proof

namespace Sys2Proof.Machine

/-! ## Fetch -/

theorem Word.add_one_add_one (addr : Word) : addr + 1 + 1 = addr + 2 := by bv_omega

theorem State.fetchInstr_one {s : State} {i : Instr} (h : lut (s.mem.read s.pc) = .one i) : s.fetchInstr = i := by
  simp only [State.fetchInstr, State.entry, h]

theorem State.fetchInstr_two {s : State} {f : Byte → Instr} (h : lut (s.mem.read s.pc) = .two f) :
    s.fetchInstr = f (s.mem.read (s.pc + 1)) := by
  simp only [State.fetchInstr, State.entry, h]

theorem State.fetchInstr_three {s : State} {f : Word → Instr} (h : lut (s.mem.read s.pc) = .three f) :
    s.fetchInstr = f (imm16 (s.mem.read (s.pc + 1)) (s.mem.read (s.pc + 2))) := by
  simp only [State.fetchInstr, State.entry, h]

/-- The instruction fetched is the one the bytes at PC decode to, however many of them the decoder is given: the entry of
the opcode byte fixes both (R95), and the decoder accepts no fewer bytes than the fetch reads. -/
theorem State.fetchInstr_eq_of_decode {s : State} {n : Nat} {i : Instr} {rest : List Byte}
    (h : decode (s.mem.bytesAt s.pc n) = .ok i rest) : s.fetchInstr = i := by
  cases hentry : lut (s.mem.read s.pc) with
  | one j =>
    match n with
    | 0 => cases h
    | n + 1 =>
      rw [Memory.bytesAt, decode_one hentry] at h
      cases h
      exact State.fetchInstr_one hentry
  | two f =>
    match n with
    | 0 => cases h
    | 1 => cases (decode_two_missing hentry).symm.trans h
    | n + 2 =>
      rw [Memory.bytesAt, Memory.bytesAt, decode_two hentry] at h
      cases h
      exact State.fetchInstr_two hentry
  | three f =>
    match n with
    | 0 => cases h
    | 1 => cases (decode_three_missing hentry).symm.trans h
    | 2 => cases (decode_three_missing_high hentry _).symm.trans h
    | n + 3 =>
      rw [Memory.bytesAt, Memory.bytesAt, Memory.bytesAt, decode_three hentry, Word.add_one_add_one] at h
      cases h
      exact State.fetchInstr_three hentry

/-! ## A step -/

/-- A step in Running is the meaning of the instruction fetched (R86). -/
theorem step_running {s : State} (h : s.status = .running) : step s = exec s.fetchInstr s := by
  simp only [step, State.isRunning, h, decide_true, if_true]

/-- A step when STATUS is not Running changes nothing (R273). -/
theorem step_not_running {s : State} (h : s.status ≠ .running) : step s = .next s := by
  simp only [step, State.isRunning, h, decide_false, Bool.false_eq_true, if_false]

/-- Settles O6: the step runs what it fetches, and what it fetches is what the bytes at PC decode to. -/
theorem stepRunsDecoded : Obligations.StepRunsDecoded := by
  intro s n i rest hrunning hdecode
  rw [step_running hrunning, State.fetchInstr_eq_of_decode hdecode]

/-- Settles O41: the code and the test of each condition are the rows of their definitions. -/
theorem conditions : Obligations.Conditions := fun _ =>
  ⟨⟨rfl, rfl⟩, ⟨rfl, rfl⟩, ⟨rfl, rfl⟩, ⟨rfl, rfl⟩, ⟨rfl, rfl⟩, ⟨rfl, rfl⟩, ⟨rfl, rfl⟩, ⟨rfl, rfl⟩⟩

end Sys2Proof.Machine
end

section
/-!
The program counter (30_encoding.md R81, 41_stack_control.md R176): what each form leaves in PC.
-/

namespace Sys2Proof.Machine

/-- PC after a form by R81: the opcode's address for an opcode with no handler, the target where the rule writes one, and
otherwise the address past the opcode byte and the operand bytes. -/
def State.pcAfter (s : State) (form : Form) : Word :=
  if isUnimplemented form then s.pc else (target s form).getD (s.pc + BitVec.ofNat 16 (form.operands.length + 1))

/-! ## Targets -/

/-- The vector of RST n as the sixteen-bit product that R172 writes. -/
theorem restart_vector (n : BitVec 3) : n.setWidth 16 * 8 = BitVec.ofNat 16 (n.toNat * 8) := by bv_omega

/-- The word a pop returns is the word at SP. -/
theorem State.top16_eq_readWord (s : State) : s.top16 = s.mem.readWord s.sp := rfl

/-! ## Every form -/

/-- A form's next state has the PC of R81. A conditional transfer goes by the two values of its condition; a write to an
operand chosen by a field leaves PC by the lemma of that write, before the form advances it. -/
theorem execForm_pc {form : Form} {s t : State} (h : execForm form s = .next t) : t.pc = s.pcAfter form := by
  cases form with
  | daa | undocumented => cases h; rfl
  | jmp | call | pchl | ret => cases h; rfl
  | rst n => cases h; exact restart_vector n
  | jcc cc | ccc cc | rcc cc =>
    simp only [execForm, jumpIf_eq, callIf_eq, returnIf_eq] at h
    cases h
    cases hcond : s.flags.cond cc <;>
      simp [State.pcAfter, isUnimplemented, target, hcond, Form.operands, operand16, State.top16_eq_readWord]
  | movRR | movRM | mvi | inr | dcr | lxi | inx | dcx | pop =>
    cases h
    simp [State.pcAfter, isUnimplemented, target, Form.operands, operand16]
  | nop | hlt | ei | di | movMR | mviM | lda | sta | lhld | shld | ldax | stax | xchg | aluR | aluM | aluI | inrM | dcrM
  | dad | rlc | rrc | ral | rar | stc | cmc | cma | push | xthl | sphl | inPort | outPort => cases h; rfl

/-- An instruction's next state has the PC of R81. -/
theorem exec_pc {i : Instr} {s t : State} (h : exec i s = .next t) : t.pc = s.pcAfter i.form :=
  execForm_pc ((exec_eq_execForm i s).symm.trans h)

/-- Settles O50: `exec_pc` for an instruction, whose length is its opcode byte and its operands; a step taken when STATUS is
not Running answers the same state. -/
theorem programCounterRule : Obligations.ProgramCounterRule := by
  refine ⟨fun i s t h => exec_pc h, fun s t hended h => ?_⟩
  cases (step_not_running hended).symm.trans h
  rfl

end Sys2Proof.Machine
end

section
/-!
The flag generator and the ALU (40_arith_logic.md R110, R111, R145): Z, S and P of a byte as 10_state.md R25 words them, the
result and carry of each operation in BitVec arithmetic, and one equation for every ALU instruction.
-/

namespace Sys2Proof.Machine

/-! ## The flag generator -/

/-- Counting the members that satisfy a test and taking the exclusive OR of the test's answers agree on parity. -/
theorem even_countP_eq_xor (p : Nat → Bool) (l : List Nat) :
    (l.countP p % 2 == 0) = (l.foldr (fun k acc => p k ^^ acc) false == false) := by
  induction l with
  | nil => rfl
  | cons k l ih =>
    cases hk : p k with
    | false => simpa [hk] using ih
    | true =>
      have hsucc (n : Nat) : ((n + 1) % 2 == 0) = !(n % 2 == 0) := by
        rcases Nat.mod_two_eq_zero_or_one n with h | h <;> simp [Nat.add_mod, h]
      simp [hk, hsucc, ih]

theorem parityEven_eq_evenOnes (v : Byte) : parityEven v = evenOnes v := by
  rw [evenOnes, even_countP_eq_xor]
  simp [parityEven, List.range, List.range.loop]

/-- Bit 7 of a byte is set from 128 on. -/
theorem Byte.getLsbD_seven (v : Byte) : v.getLsbD 7 = decide (128 ≤ v.toNat) :=
  (BitVec.msb_eq_getLsbD_last v).symm.trans (BitVec.msb_eq_decide v)

theorem Flags.szp_eq_flagsOf (f : Flags) (v : Byte) : f.szp v = flagsOf v f.cy f.ac := by
  simp only [Flags.szp, flagsOf, parityEven_eq_evenOnes, Byte.getLsbD_seven]
  rfl

/-- Settles O17: Z by its definition, S by bit 7, P by the parity of a count; CY and AC are kept. -/
theorem flagGenerator : Obligations.FlagGenerator := Flags.szp_eq_flagsOf

/-! ## The result and the carry of each operation -/

theorem ofNat_toNat_eq_carryByte (cy : Bool) : BitVec.ofNat 8 cy.toNat = carryByte cy := by
  cases cy <;> rfl

@[simp] theorem aluResult_adc (a v : Byte) (cy : Bool) :
    aluResult .adc a v cy = (a + v + carryByte cy, decide (0xFF < a.toNat + v.toNat + cy.toNat)) := by
  rw [aluResult, add8_eq, ofNat_toNat_eq_carryByte]

@[simp] theorem aluResult_sbb (a v : Byte) (cy : Bool) :
    aluResult .sbb a v cy = (a - v - carryByte cy, decide (a.toNat < v.toNat + cy.toNat)) := by
  rw [aluResult, sub8_eq, ofNat_toNat_eq_carryByte]

@[simp] theorem aluResult_add (a v : Byte) (cy : Bool) :
    aluResult .add a v cy = (a + v, decide (0xFF < a.toNat + v.toNat)) := by
  simp [aluResult, add8_eq]

@[simp] theorem aluResult_sub (a v : Byte) (cy : Bool) :
    aluResult .sub a v cy = (a - v, decide (a.toNat < v.toNat)) := by
  simp [aluResult, sub8_eq]

@[simp] theorem aluResult_cmp (a v : Byte) (cy : Bool) :
    aluResult .cmp a v cy = (a - v, decide (a.toNat < v.toNat)) := aluResult_sub a v cy

@[simp] theorem aluResult_ana (a v : Byte) (cy : Bool) : aluResult .ana a v cy = (a &&& v, false) := rfl

@[simp] theorem aluResult_xra (a v : Byte) (cy : Bool) : aluResult .xra a v cy = (a ^^^ v, false) := rfl

@[simp] theorem aluResult_ora (a v : Byte) (cy : Bool) : aluResult .ora a v cy = (a ||| v, false) := rfl

/-- All an ALU operation does to the state (R145): A by the result unless it compares, the four flags, and no AC. -/
theorem State.alu_eq (s : State) (op : AluOp) (v : Byte) :
    s.alu op v = { s with
      a := if aluWritesA op then (aluResult op s.a v s.flags.cy).1 else s.a
      flags := flagsOf (aluResult op s.a v s.flags.cy).1 (aluResult op s.a v s.flags.cy).2 s.flags.ac } := by
  simp only [State.alu, Flags.szp_eq_flagsOf]
  rfl

/-! ## An instruction, by its form -/

theorem exec_of_form {i : Instr} {form : Form} (h : i.form = form) (s : State) : exec i s = execForm form s := by
  rw [exec_eq_execForm, h]

theorem encode_of_form {i : Instr} {form : Form} (h : i.form = form) : encode i = form.opcode :: form.operands := by
  rw [encode, h]

section

variable {i : Instr} {src : AluSource} {op : AluOp} (h : i.form = src.form op)

include h

theorem encode_alu : encode i = src.code op.code := by
  rw [encode_of_form h]
  cases src <;> rfl

/-- Every ALU instruction is its operation on the operand its source names, then PC past its bytes. -/
theorem exec_alu_eq_advance (s : State) : exec i s = .next ((s.alu op (src.value s)).advance src.length) := by
  rw [exec_of_form h]
  cases src <;> rfl

/-- The next state of every ALU instruction (R145). -/
theorem exec_alu (s : State) :
    exec i s = .next { s with
      a := if aluWritesA op then (aluResult op s.a (src.value s) s.flags.cy).1 else s.a
      flags := flagsOf (aluResult op s.a (src.value s) s.flags.cy).1 (aluResult op s.a (src.value s) s.flags.cy).2
        s.flags.ac
      pc := s.pc + src.length } := by
  rw [exec_alu_eq_advance h, State.alu_eq]
  rfl

end

/-! ## The families -/

/-- Settles O24: `exec_alu` with the sum and carry of `aluResult_add`. -/
theorem addInstructions : Obligations.AddInstructions := by
  intro i src s h
  exact ⟨encode_alu (op := .add) h, by rw [exec_alu h, aluResult_add]; rfl⟩

/-- Settles O25: `exec_alu` with the sum and carry of `aluResult_adc`. -/
theorem adcInstructions : Obligations.AdcInstructions := by
  intro i src s h
  exact ⟨encode_alu (op := .adc) h, by rw [exec_alu h, aluResult_adc]; rfl⟩

/-- Settles O26: `exec_alu` with the difference and borrow of `aluResult_sub`. -/
theorem subInstructions : Obligations.SubInstructions := by
  intro i src s h
  exact ⟨encode_alu (op := .sub) h, by rw [exec_alu h, aluResult_sub]; rfl⟩

/-- Settles O27: `exec_alu` with the difference and borrow of `aluResult_sbb`. -/
theorem sbbInstructions : Obligations.SbbInstructions := by
  intro i src s h
  exact ⟨encode_alu (op := .sbb) h, by rw [exec_alu h, aluResult_sbb]; rfl⟩

/-- Settles O28: `exec_alu` with the bitwise result of each operation, whose carry is false (R146). -/
theorem logicInstructions : Obligations.LogicInstructions := by
  intro i src s
  exact ⟨fun h => ⟨encode_alu (op := .ana) h, exec_alu h s⟩, fun h => ⟨encode_alu (op := .xra) h, exec_alu h s⟩,
    fun h => ⟨encode_alu (op := .ora) h, exec_alu h s⟩⟩

/-- Settles O29: `exec_alu` with A kept; the difference is zero exactly when A is the operand. -/
theorem compareInstructions : Obligations.CompareInstructions := by
  intro i src s h
  refine ⟨encode_alu (op := .cmp) h, _, exec_alu h s, ?_, ?_⟩
  · rw [aluResult_cmp]
    rfl
  · rw [aluResult_cmp]
    exact beq_iff_eq.trans sub_eq_zero

end Sys2Proof.Machine
end

section
/-!
Increment, decrement and double add (40_arith_logic.md R136-R142). An increment and a decrement write a value over the one
they read, so what they leave is said once for any value.
-/

namespace Sys2Proof.Machine

section

variable (s : State)

/-! ## A value written over a register, over M, over a pair -/

/-- A register and the flags of its new value written, PC past one byte; CY is kept. -/
theorem State.setReg_szp_advance (r : Reg8) (v : Byte) :
    { s.setReg r v with flags := s.flags.szp v }.advance 1 =
      { s.setReg r v with flags := flagsOf v s.flags.cy s.flags.ac, pc := s.pc + 1 } := by
  simp only [State.advance, State.setReg_pc, Flags.szp_eq_flagsOf]

/-- M and the flags of its new value written, PC past one byte: one byte of memory differs, and CY is kept. -/
theorem State.writeM_szp_advance (v : Byte) :
    let t := { s.writeM v with flags := s.flags.szp v }.advance 1
    StoresByte s t (word s.h s.l) v ∧
      t = { s with mem := t.mem, flags := flagsOf v s.flags.cy s.flags.ac, pc := s.pc + 1 } := by
  refine ⟨fun x => Memory.read_write s.mem (word s.h s.l) x v, ?_⟩
  simp only [Flags.szp_eq_flagsOf]
  rfl

theorem State.rp_advance (p : Rp) (len : Word) : (s.advance len).rp p = s.rp p := by cases p <;> rfl

/-- A pair written, PC past one byte: the pair reads back, and nothing else differs. -/
theorem State.setRp_advance (p : Rp) (v : Word) :
    let t := (s.setRp p v).advance 1
    t.rp p = v ∧ t = { s.setRp p (t.rp p) with pc := s.pc + 1 } := by
  intro t
  have hback : t.rp p = v := (State.rp_advance (s.setRp p v) p 1).trans (s.setRp_rp p v)
  refine ⟨hback, ?_⟩
  rw [hback]
  simp only [t, State.advance, State.setRp_pc]

end

/-! ## The families -/

/-- Settles O30: the byte written is one more or one less than the register's, with its flags. -/
theorem incDecRegister : Obligations.IncDecRegister := by
  refine fun i r s => ⟨fun h => ⟨encode_of_form h, ?_⟩, fun h => ⟨encode_of_form h, ?_⟩⟩
  · rw [← State.setReg_szp_advance]
    exact exec_of_form h s
  · rw [← State.setReg_szp_advance]
    exact exec_of_form h s

/-- Settles O31: the byte written is one more or one less than the one at HL, with its flags. -/
theorem incDecMemory : Obligations.IncDecMemory :=
  fun s => ⟨⟨rfl, _, rfl, s.writeM_szp_advance (s.readM + 1)⟩, ⟨rfl, _, rfl, s.writeM_szp_advance (s.readM - 1)⟩⟩

/-- Settles O32: the word written is one more or one less than the pair's, modulo 65536. -/
theorem incDecPair : Obligations.IncDecPair := by
  refine fun i p s => ⟨fun h => ⟨encode_of_form h, _, exec_of_form h s, ?_⟩,
    fun h => ⟨encode_of_form h, _, exec_of_form h s, ?_⟩⟩
  · obtain ⟨hback, hframe⟩ := s.setRp_advance p (s.rp p + 1)
    exact ⟨by rw [hback, BitVec.toNat_add]; rfl, hframe⟩
  · obtain ⟨hback, hframe⟩ := s.setRp_advance p (s.rp p - 1)
    exact ⟨by rw [hback, BitVec.toNat_sub, Nat.add_comm]; rfl, hframe⟩

/-- Settles O33: HL is the sum's low sixteen bits, and CY tests the exact sum of the numbers HL and the pair stand for. -/
theorem doubleAddsToHL : Obligations.DoubleAdd := by
  intro i p s h
  refine ⟨encode_of_form h, _, exec_of_form h s, ?_, ?_⟩
  · rw [← word_toNat, ← word_toNat]
    exact (congrArg BitVec.toNat (word_hi_lo _)).trans (BitVec.toNat_ofNat _ 16)
  · rw [← word_toNat]
    rfl

end Sys2Proof.Machine
end

section
/-!
The opcodes with no handler (40_arith_logic.md R143, 50_misc.md R230): which instructions have one, what they do, and what
the step that fetches one reads.
-/

namespace Sys2Proof

/-! ## What the dispatcher's entry for a byte selects -/

/-- The instruction of an entry with the bytes after the opcode. -/
def Entry.instr (b2 b3 : Byte) : Entry → Instr
  | .one i => i
  | .two f => f b2
  | .three f => f (imm16 b2 b3)

/-- The operand bytes of an entry's instruction, of the bytes after the opcode. -/
def Entry.operands (b2 b3 : Byte) : Entry → List Byte
  | .one _ => []
  | .two _ => [b2]
  | .three _ => operand16 (imm16 b2 b3)

theorem Entry.length_eq (e : Entry) (b2 b3 : Byte) : e.length = (e.operands b2 b3).length + 1 := by
  cases e <;> rfl

/-- Every entry of the opcode map (R94) is at the opcode its instruction encodes to. -/
theorem encode_opcodeAt (b2 b3 : Byte) : ∀ hi lo : Fin 16,
    encode ((opcodeAt hi lo).instr b2 b3) =
      BitVec.ofNat 8 (16 * hi.val + lo.val) :: (opcodeAt hi lo).operands b2 b3 := by
  intro hi lo
  fin_cases hi <;> fin_cases lo <;> rfl

theorem encode_lut (op b2 b3 : Byte) : encode ((lut op).instr b2 b3) = op :: (lut op).operands b2 b3 := by
  rw [lut, encode_opcodeAt]
  simp [Nat.div_add_mod]

end Sys2Proof

namespace Sys2Proof.Machine

theorem State.fetchInstr_eq_instr (s : State) :
    s.fetchInstr = s.entry.instr (s.mem.read (s.pc + 1)) (s.mem.read (s.pc + 2)) := by
  unfold State.fetchInstr
  cases s.entry <;> rfl

/-- The instruction fetched encodes to the byte at PC and as many operand bytes as its entry takes. -/
theorem State.encode_fetchInstr (s : State) :
    encode s.fetchInstr = s.mem.read s.pc :: s.entry.operands (s.mem.read (s.pc + 1)) (s.mem.read (s.pc + 2)) := by
  rw [State.fetchInstr_eq_instr]
  exact encode_lut (s.mem.read s.pc) _ _

/-- An instruction fetched that is one byte long is read by the fetch of that byte alone. -/
theorem State.fetchAccesses_of_encode {s : State} {op : Byte} (h : encode s.fetchInstr = [op]) :
    fetchAccesses s.mem s.pc s.entry.length = [.fetch s.pc op] := by
  rw [State.encode_fetchInstr] at h
  obtain ⟨hop, hoperands⟩ := List.cons.inj h
  rw [s.entry.length_eq, hoperands, ← hop]
  rfl

/-! ## The instructions with no handler -/

/-- The thirteen opcodes are exactly those of the instructions with no handler (R93). -/
theorem isUnimplemented_eq_contains (i : Instr) :
    isUnimplemented i.form = unimplementedOpcodes.contains i.form.opcode := by
  cases i <;> rfl

section

variable {form : Form} (h : isUnimplemented form = true)

include h

/-- An opcode with no handler raises UnimplementedOpcode (R240) with its own byte. -/
theorem execForm_of_isUnimplemented : execForm form = unimplemented form.opcode := by
  cases form with
  | daa | undocumented => rfl
  | _ => cases h

theorem operands_of_isUnimplemented : form.operands = [] := by
  cases form with
  | daa | undocumented => rfl
  | _ => cases h

theorem formAccesses_of_isUnimplemented (s : State) : s.formAccesses form = [] := by
  cases form with
  | daa | undocumented => rfl
  | _ => cases h

end

/-- Settles O49: the opcodes by `isUnimplemented_eq_contains`; the effect is the fault's entry; the step reads the one byte
the instruction encodes to and its form has no access of its own. -/
theorem unimplementedOpcodes_fault : Obligations.UnimplementedOpcodes := by
  intro i op hop
  obtain rfl : i.form.opcode = op := Option.some.inj hop
  refine ⟨by rw [isUnimplemented_eq_contains, List.contains_iff_mem]; rfl, fun h => ?_⟩
  have hencode : encode i = [i.form.opcode] := by rw [encode, operands_of_isUnimplemented h]
  refine ⟨hencode, fun s => ⟨?_, fun hrunning hfetch => ?_⟩⟩
  · rw [exec_eq_execForm, execForm_of_isUnimplemented h]
    rfl
  · subst hfetch
    simp only [State.accesses, State.isRunning, hrunning, decide_true, if_true,
      State.fetchAccesses_of_encode hencode, formAccesses_of_isUnimplemented h, List.append_nil]

end Sys2Proof.Machine
end

section
/-!
The stack and the control transfers (41_stack_control.md R160-R174). Four families push (PUSH, CALL, a taken Ccc, RST),
so what a push followed by a write of PC does is said once; what a pop returns is said by its two bytes.
-/

namespace Sys2Proof.Machine

/-! ## Two bytes of memory written -/

/-- Two stores at different addresses may be named in either order. -/
theorem StoresTwo.swap {s t : State} {addr1 addr2 : Word} {v1 v2 : Byte} (hne : addr1 ≠ addr2)
    (h : StoresTwo s t addr1 v1 addr2 v2) : StoresTwo s t addr2 v2 addr1 v1 := by
  intro x
  rw [h x]
  by_cases hx : x = addr1
  · rw [if_pos hx, if_neg (hx ▸ hne), if_pos hx]
  · rw [if_neg hx, if_neg hx]

theorem Word.sub_two_ne_sub_one (v : Word) : v - 2 ≠ v - 1 := by bv_omega

section

variable (s : State)

theorem State.storesTwo_storeWord (addr v : Word) :
    StoresTwo s (s.storeWord addr v) addr (loByte v) (addr + 1) (hiByte v) :=
  StoresTwo.swap (Word.ne_add_one addr).symm (s.mem.read_writeWord addr v)

theorem State.pushes_push16 (v : Word) : Pushes s (s.push16 v) (hiByte v) (loByte v) :=
  ⟨rfl, StoresTwo.swap (Word.sub_two_ne_sub_one s.sp) (s.read_push16 v)⟩

/-- All that a push and then a write of PC does (R60): the push of the word's bytes, PC, and nothing else. -/
theorem State.push16_jump (v dest : Word) :
    let t := (s.push16 v).jump dest
    Pushes s t (hiByte v) (loByte v) ∧ t = { s with sp := t.sp, mem := t.mem, pc := dest } :=
  ⟨s.pushes_push16 v, rfl⟩

/-! ## The word a pop returns, by its bytes (R61) -/

@[simp] theorem State.loByte_top16 : loByte s.top16 = s.mem.read s.sp := loByte_word _ _

@[simp] theorem State.hiByte_top16 : hiByte s.top16 = s.mem.read (s.sp + 1) := hiByte_word _ _

/-! ## The pairs of PUSH and POP, by their bytes -/

/-- The packed flag byte is the sum of weighted flags R28 writes, for each of the 32 flag records. -/
theorem Flags.pack_eq_flagByte (f : Flags) : f.pack = flagByte f := by
  obtain ⟨z, s, p, cy, ac⟩ := f
  revert z s p cy ac
  decide

theorem State.rps_eq_word_pairBytes (p : Rps) : s.rps p = word (pairBytes s p).1 (pairBytes s p).2 := by
  cases p with
  | bc | de | hl => rfl
  | psw => exact congrArg (word s.a) s.flags.pack_eq_flagByte

theorem State.hiByte_rps (p : Rps) : hiByte (s.rps p) = (pairBytes s p).1 := by
  rw [State.rps_eq_word_pairBytes, hiByte_word]

theorem State.loByte_rps (p : Rps) : loByte (s.rps p) = (pairBytes s p).2 := by
  rw [State.rps_eq_word_pairBytes, loByte_word]

end

/-- The flag byte bit by bit (R28): the five flags in bits 0, 2, 4, 6 and 7, bit 1 set, bits 3 and 5 clear. -/
theorem flagByte_bits (f : Flags) :
    (flagByte f).getLsbD 0 = f.cy ∧ (flagByte f).getLsbD 1 = true ∧ (flagByte f).getLsbD 2 = f.p ∧
      (flagByte f).getLsbD 3 = false ∧ (flagByte f).getLsbD 4 = f.ac ∧ (flagByte f).getLsbD 5 = false ∧
      (flagByte f).getLsbD 6 = f.z ∧ (flagByte f).getLsbD 7 = f.s := by
  obtain ⟨z, s, p, cy, ac⟩ := f
  revert z s p cy ac
  decide

/-! ## The stack instructions -/

/-- Settles O36: a push of the pair's two bytes, then PC past the one byte. -/
theorem pushInstructions : Obligations.PushInstructions := by
  intro i p s h
  refine ⟨encode_of_form h, _, exec_of_form h s, ?_⟩
  rw [← State.hiByte_rps, ← State.loByte_rps]
  exact s.push16_jump (s.rps p) (s.pc + 1)

/-- Settles O37: the low byte PUSH PSW stores is R28's flag byte, whose bit 4 is AC, false by the invariant. -/
theorem pushedFlagByte : Obligations.PushedFlagByte := by
  intro s hinv
  obtain ⟨-, hac, -⟩ := hinv
  obtain ⟨hencode, t, hexec, hpush, hframe⟩ := pushInstructions .pushPsw .psw s rfl
  have hbits := flagByte_bits s.flags
  rw [hac] at hbits
  exact ⟨hencode, t, flagByte s.flags, hexec, hpush, hframe, hbits⟩

/-- Settles O38: the pair named receives the two bytes of the word popped, the PSW's low byte by its four flag bits. -/
theorem popInstructions : Obligations.PopInstructions := by
  intro i p s h
  refine ⟨encode_of_form h, (exec_of_form h s).trans ?_⟩
  rw [← State.loByte_top16, ← State.hiByte_top16]
  cases p with
  | bc | de | hl | psw => rfl

/-- Settles O39: HL is stored as a word at SP, and receives the word read from SP before the store. -/
theorem exchangeStackTop : Obligations.ExchangeStackTop := by
  intro s
  have hstores : StoresTwo s (s.storeWord s.sp s.hl) s.sp s.l (s.sp + 1) s.h := by
    have h := s.storesTwo_storeWord s.sp s.hl
    rwa [State.hl, loByte_word, hiByte_word] at h
  refine ⟨rfl, _, rfl, hstores, ?_⟩
  rw [← State.loByte_top16, ← State.hiByte_top16]
  rfl

/-! ## The control transfers -/

/-- Settles O40: both write PC and nothing else. -/
theorem jumps : Obligations.Jumps := fun _ _ => ⟨rfl, rfl, rfl, rfl⟩

/-- Settles O42: `jumpIf_eq` is the instruction's whole effect. -/
theorem conditionalJumps : Obligations.ConditionalJumps :=
  fun _ cc addr s h => ⟨encode_of_form h, (exec_of_form h s).trans (jumpIf_eq cc addr s)⟩

/-- Settles O43: CALL pushes and jumps; a Ccc is the same or PC past its three bytes, by `callIf_eq`. -/
theorem calls : Obligations.Calls := by
  refine ⟨fun addr s => ⟨rfl, _, rfl, s.push16_jump (s.pc + 3) addr⟩, fun i cc addr s h => ?_⟩
  have hexec : exec i s = .next (if s.flags.cond cc then (s.push16 (s.pc + 3)).jump addr else s.advance 3) :=
    (exec_of_form h s).trans (callIf_eq cc addr s)
  refine ⟨encode_of_form h, fun hnot => ?_, fun htaken => ?_⟩
  · simp only [hexec, hnot, Bool.false_eq_true, if_false, State.advance]
  · rw [if_pos htaken] at hexec
    exact ⟨_, hexec, s.push16_jump (s.pc + 3) addr⟩

/-- Settles O44: RET pops into PC; a Rcc is the same or PC past its one byte, by `returnIf_eq`, and reads the stack only
when taken. -/
theorem returns : Obligations.Returns := by
  refine ⟨fun s => ⟨rfl, rfl⟩, fun i cc s h => ⟨encode_of_form h, ?_, fun hnot => ?_⟩⟩
  · exact (exec_of_form h s).trans (returnIf_eq cc s)
  · simp only [h, State.formAccesses, hnot, Bool.false_eq_true, if_false]

/-- The vector of RST n is the number n times 8, which needs no wrap. -/
theorem restart_vector_toNat (n : BitVec 3) : (n.setWidth 16 * 8).toNat = n.toNat * 8 := by
  rw [restart_vector, BitVec.toNat_ofNat]
  have := n.isLt
  omega

/-- Settles O45: a push of the address past the one byte, then a jump to the vector. -/
theorem restarts : Obligations.Restarts := by
  intro i n s h
  obtain ⟨hpush, hframe⟩ := s.push16_jump (s.pc + 1) (n.setWidth 16 * 8)
  exact ⟨encode_of_form h, _, exec_of_form h s, hpush, restart_vector_toNat n, hframe⟩

end Sys2Proof.Machine
end

section
/-!
Rotates and carry (42_rotate_carry.md R190-R196). R190-R193 place the bit moved in by concatenation, the obligation by
shifts; that the two give one byte, whatever bit is moved in, is said once for each direction, and a rotate alone moves in
the bit that wraps around.
-/

namespace Sys2Proof.Machine

theorem getLsbD_carryByte (c : Bool) (i : Nat) : (carryByte c).getLsbD i = (decide (i = 0) && c) := by
  cases c with
  | false => simp [carryByte]
  | true => simp [carryByte, BitVec.getLsbD_one]

/-! ## A byte moved by one place, with the bit moved in -/

/-- Bit 0 is the bit moved in, and every other bit the one below it. -/
theorem Byte.append_ofBool_eq_shiftLeft (v : Byte) (c : Bool) :
    v.extractLsb' 0 7 ++ BitVec.ofBool c = v <<< 1 ||| carryByte c := by
  apply BitVec.eq_of_getLsbD_eq
  intro i (hi : i < 8)
  rw [BitVec.getLsbD_append, BitVec.getLsbD_or, BitVec.getLsbD_shiftLeft, getLsbD_carryByte]
  cases i with
  | zero => simp
  | succ i =>
    have hi7 : i < 7 := by omega
    simp [hi7, hi]

/-- Bit 7 is the bit moved in, and every other bit the one above it. -/
theorem Byte.ofBool_append_eq_ushiftRight (v : Byte) (c : Bool) :
    BitVec.ofBool c ++ v.extractLsb' 1 7 = v >>> 1 ||| carryByte c <<< 7 := by
  apply BitVec.eq_of_getLsbD_eq
  intro i hi
  rw [BitVec.getLsbD_append, BitVec.getLsbD_or, BitVec.getLsbD_shiftLeft, getLsbD_carryByte]
  by_cases hi7 : i < 7
  · simp [hi7]
  · obtain rfl : i = 7 := by omega
    simp

/-! ## A rotate alone moves in the bit that wraps around -/

theorem Byte.ushiftRight_seven (v : Byte) : v >>> 7 = carryByte (v.getLsbD 7) := by
  apply BitVec.eq_of_getLsbD_eq
  intro i hi
  rw [BitVec.getLsbD_ushiftRight, getLsbD_carryByte]
  cases i with
  | zero => simp
  | succ i =>
    have hout : v.getLsbD (7 + (i + 1)) = false := BitVec.getLsbD_of_ge v _ (by omega)
    simp [hout]

theorem Byte.shiftLeft_seven (v : Byte) : v <<< 7 = carryByte (v.getLsbD 0) <<< 7 := by
  apply BitVec.eq_of_getLsbD_eq
  intro i hi
  rw [BitVec.getLsbD_shiftLeft, BitVec.getLsbD_shiftLeft, getLsbD_carryByte]
  by_cases hi7 : i < 7
  · simp [hi7]
  · obtain rfl : i = 7 := by omega
    simp

theorem Byte.append_ofBool_seven (v : Byte) : v.extractLsb' 0 7 ++ BitVec.ofBool (v.getLsbD 7) = v.rotateLeft 1 := by
  rw [Byte.append_ofBool_eq_shiftLeft, ← Byte.ushiftRight_seven]
  rfl

theorem Byte.ofBool_zero_append (v : Byte) : BitVec.ofBool (v.getLsbD 0) ++ v.extractLsb' 1 7 = v.rotateRight 1 := by
  rw [Byte.ofBool_append_eq_ushiftRight, ← Byte.shiftLeft_seven]
  rfl

/-! ## The instructions -/

/-- Settles O34: the byte each rotate builds by concatenation is the one its shifts give; CY and PC are as the model
writes them. -/
theorem rotates : Obligations.Rotates := by
  intro s
  rw [← Byte.append_ofBool_seven, ← Byte.ofBool_zero_append, ← Byte.append_ofBool_eq_shiftLeft,
    ← Byte.ofBool_append_eq_ushiftRight]
  exact ⟨rfl, rfl, rfl, rfl, rfl, rfl, rfl, rfl⟩

/-- Settles O35: each writes the one bit or byte it names, and PC. -/
theorem carryAndComplement : Obligations.CarryAndComplement := fun _ => ⟨rfl, rfl, rfl, rfl, rfl, rfl⟩

end Sys2Proof.Machine
end

section
/-!
Data movement (43_data_movement.md R200-R213, 41_stack_control.md R165). Each instruction is one write and then PC past its
bytes, so each kind of write followed by the move of PC is said once.
-/

namespace Sys2Proof.Machine

section

variable (s : State)

/-! ## A register written, then PC past the bytes -/

theorem State.setReg_advance (r : Reg8) (v : Byte) (len : Word) :
    (s.setReg r v).advance len = { s.setReg r v with pc := s.pc + len } := by
  rw [State.advance, State.setReg_pc]

/-! ## HL or DE written as a word, by its two registers -/

theorem State.setHL_word (hi lo : Byte) : s.setHL (word hi lo) = { s with h := hi, l := lo } := by
  rw [State.setHL, hiByte_word, loByte_word]

theorem State.setDE_word (hi lo : Byte) : s.setDE (word hi lo) = { s with d := hi, e := lo } := by
  rw [State.setDE, hiByte_word, loByte_word]

/-! ## Memory written, then PC past the bytes -/

/-- All that a byte store and then the move of PC do: the byte at the address, PC, and nothing else. -/
theorem State.storeByte_advance (addr : Word) (v : Byte) (len : Word) :
    let t := (s.storeByte addr v).advance len
    StoresByte s t addr v ∧ t = { s with mem := t.mem, pc := s.pc + len } :=
  ⟨fun x => Memory.read_write s.mem addr x v, rfl⟩

/-- HL stored as a word is L at the address and H at the next one, which wraps (R54). -/
theorem State.storesTwo_storeWord_hl (addr : Word) :
    StoresTwo s (s.storeWord addr s.hl) addr s.l (addr + 1) s.h := by
  have h := s.storesTwo_storeWord addr s.hl
  rwa [State.hl, loByte_word, hiByte_word] at h

end

/-! ## The instructions -/

/-- Settles O22: LHLD receives the word's two bytes in H and L; SHLD stores HL's two bytes, whose addresses differ even at
0xFFFF. -/
theorem hlDirect : Obligations.HLDirect := by
  intro addr s
  have hload : s.setHL (s.mem.readWord addr) = { s with h := s.mem.read (addr + 1), l := s.mem.read addr } :=
    s.setHL_word (s.mem.read (addr + 1)) (s.mem.read addr)
  have hexec : exec (.lhld addr) s = .next ((s.setHL (s.mem.readWord addr)).advance 3) := rfl
  rw [hexec, hload]
  exact ⟨rfl, rfl, rfl, _, rfl, s.storesTwo_storeWord_hl addr, rfl⟩

/-- Settles O18: the register named receives the other's byte of before; where both are one register it keeps its byte. -/
theorem movRegisterRegister : Obligations.MovRegisterRegister := by
  intro i dst src s h
  refine ⟨encode_of_form h, ?_⟩
  rw [← State.setReg_advance]
  exact exec_of_form h s

/-- Settles O19: the byte is read at the address the state before gives, HL among them, and then written to the register. -/
theorem byteLoads : Obligations.ByteLoads := by
  refine ⟨fun i dst s h => ⟨encode_of_form h, ?_⟩, fun addr s => ⟨rfl, rfl⟩, fun s => ⟨rfl, rfl⟩, fun s => ⟨rfl, rfl⟩⟩
  rw [← State.setReg_advance]
  exact exec_of_form h s

/-- Settles O20: each is a byte store at its own address, then PC past its bytes. -/
theorem byteStores : Obligations.ByteStores :=
  ⟨fun _ src s h => ⟨encode_of_form h, _, exec_of_form h s, s.storeByte_advance s.hl (s.reg src) 1⟩,
    fun imm s => ⟨rfl, _, rfl, s.storeByte_advance s.hl imm 2⟩,
    fun addr s => ⟨rfl, _, rfl, s.storeByte_advance addr s.a 3⟩,
    fun s => ⟨rfl, _, rfl, s.storeByte_advance s.bc s.a 1⟩,
    fun s => ⟨rfl, _, rfl, s.storeByte_advance s.de s.a 1⟩⟩

/-- Settles O21: MVI by the register its form names; each LXI writes the two halves of the word, or SP whole. -/
theorem immediateLoads : Obligations.ImmediateLoads := by
  refine ⟨fun i dst imm s h => ⟨encode_of_form h, ?_⟩, fun imm s => ⟨rfl, rfl, rfl, rfl, rfl, rfl, rfl, rfl⟩⟩
  rw [← State.setReg_advance]
  exact exec_of_form h s

/-- Settles O23: XCHG writes HL with the bytes of DE and DE with those HL had; SPHL writes SP alone. -/
theorem exchangeAndSphl : Obligations.ExchangeAndSphl := by
  intro s
  have hxchg : (s.setHL s.de).setDE s.hl = { s with h := s.d, l := s.e, d := s.h, e := s.l } := by
    rw [State.de, State.hl, State.setHL_word, State.setDE_word]
  have hexec : exec .xchg s = .next (((s.setHL s.de).setDE s.hl).advance 1) := rfl
  rw [hexec, hxchg]
  exact ⟨rfl, rfl, rfl, rfl⟩

end Sys2Proof.Machine
end

section
/-!
Machine control (44_machine_control.md R223-R226). EI, DI, NOP and HLT touch at most one field beside PC; HLT ends the run.
-/

namespace Sys2Proof.Machine

/-- Once halted, a step changes nothing: only an interrupt or reset leaves the halt state (R226). -/
theorem step_halted {s : State} (h : s.status = .halted) : step s = .next s :=
  step_not_running (by simp [h])

/-- Settles O48: each writes the one field it names, and PC; the state HLT leaves is halted, so the next step keeps it. -/
theorem controlInstructions : Obligations.ControlInstructions := fun _ =>
  ⟨rfl, rfl, rfl, rfl, rfl, rfl, rfl, rfl, step_halted rfl⟩

end Sys2Proof.Machine
end

section
/-!
The ended run (70_reset_and_hazards.md R273, R274). A step when STATUS is not Running answers the same state, so every later
step does too.
-/

namespace Sys2Proof.Machine

/-- When STATUS is not Running the step touches no memory and does no I/O (R273). -/
theorem State.accesses_not_running {s : State} (h : s.status ≠ .running) : s.accesses = [] := by
  simp only [State.accesses, State.isRunning, h, decide_false, Bool.false_eq_true, if_false]

/-- A state that a step answers unchanged is the answer of any number of steps. -/
theorem run_of_step_self {s : State} (h : step s = .next s) (k : Nat) : Host.Core.run core k s = .next s := by
  have hcore : core.step s = .next s := h
  induction k with
  | zero => rfl
  | succ k ih => simpa only [Host.Core.run, hcore] using ih

/-- Settles O59: an ended run is a fixed point of the step, so `run_of_step_self` gives any number of steps. -/
theorem endedRunStays : Obligations.EndedRunStays := by
  intro s k hended
  have hstep : step s = .next s := step_not_running hended
  exact ⟨hstep, State.accesses_not_running hended, run_of_step_self hstep k⟩

end Sys2Proof.Machine
end

section
/-!
The encoder and the decoder against each other (30_encoding.md R87, R88, R94-R98): the decoder reads back the operand bytes
of the entry its opcode selects, and every instruction is what the entry at its own opcode byte selects.
-/

namespace Sys2Proof

/-! ## Lengths (R87) -/

theorem opcodeAt_length : ∀ hi lo : Fin 16,
    (opcodeAt hi lo).length = opcodeLength (BitVec.ofNat 8 (16 * hi.val + lo.val)) := by
  decide

/-- The map's entry takes as many bytes as R87 lists for its opcode. -/
theorem lut_length (op : Byte) : (lut op).length = opcodeLength op := by
  rw [lut, opcodeAt_length]
  simp [Nat.div_add_mod]

/-- Settles O4: the lists of the statement are those `opcodeLength` tests. -/
theorem lengthByOpcode : Obligations.LengthByOpcode := lut_length

/-- Settles O5: the decoder computes each word. -/
theorem wordsFromTheFormats : Obligations.WordsFromTheFormats :=
  ⟨rfl, rfl, rfl, rfl, rfl, rfl, rfl, rfl, rfl, rfl, rfl, rfl, rfl, rfl⟩

/-! ## The operand bytes of an entry -/

/-- The operand bytes of a word, low byte first, give the word back (R83). -/
theorem operand16_imm16 (b2 b3 : Byte) : operand16 (imm16 b2 b3) = [b2, b3] :=
  congrArg₂ (fun lo hi => [lo, hi]) (Machine.loByte_word b3 b2) (Machine.hiByte_word b3 b2)

/-- The decoder reads an entry's own operand bytes and leaves what follows. -/
theorem decode_operands (op b2 b3 : Byte) (rest : List Byte) :
    decode (op :: ((lut op).operands b2 b3 ++ rest)) = .ok ((lut op).instr b2 b3) rest := by
  cases h : lut op with
  | one i => exact decode_one h rest
  | two f => exact decode_two h b2 rest
  | three f =>
    rw [Entry.operands, operand16_imm16]
    exact decode_three h b2 b3 rest

/-- Bytes that decode are an opcode byte, the operand bytes of its entry, and the rest. -/
theorem exists_operands_of_decode {bytes rest : List Byte} {i : Instr} (h : decode bytes = .ok i rest) :
    ∃ op b2 b3, bytes = op :: ((lut op).operands b2 b3 ++ rest) ∧ i = (lut op).instr b2 b3 := by
  match bytes with
  | [] => cases h
  | op :: tail =>
    refine ⟨op, tail.getD 0 0, tail.getD 1 0, ?_⟩
    cases hentry : lut op with
    | one j =>
      rw [decode_one hentry] at h
      cases h
      exact ⟨rfl, rfl⟩
    | two f =>
      match tail with
      | [] => cases (decode_two_missing hentry).symm.trans h
      | b2 :: tail =>
        rw [decode_two hentry] at h
        cases h
        exact ⟨rfl, rfl⟩
    | three f =>
      match tail with
      | [] => cases (decode_three_missing hentry).symm.trans h
      | [b2] => cases (decode_three_missing_high hentry b2).symm.trans h
      | b2 :: b3 :: tail =>
        rw [decode_three hentry] at h
        cases h
        exact ⟨congrArg (op :: · ++ rest) (operand16_imm16 b2 b3).symm, rfl⟩

/-! ## Every instruction is selected at its own opcode -/

/-- An instruction with a byte operand is selected at its opcode byte, which does not depend on the operand. -/
theorem exists_instr_eq_of_two {f : Byte → Instr} (h : lut (f 0).form.opcode = .two f)
    (hop : ∀ v, (f v).form.opcode = (f 0).form.opcode) (v : Byte) :
    ∃ b2 b3, (lut (f v).form.opcode).instr b2 b3 = f v :=
  ⟨v, 0, by rw [hop, h]; rfl⟩

/-- An instruction with a word operand is selected at its opcode byte, which does not depend on the operand. -/
theorem exists_instr_eq_of_three {f : Word → Instr} (h : lut (f 0).form.opcode = .three f)
    (hop : ∀ v, (f v).form.opcode = (f 0).form.opcode) (v : Word) :
    ∃ b2 b3, (lut (f v).form.opcode).instr b2 b3 = f v :=
  ⟨_, _, by rw [hop, h]; exact congrArg f (Machine.word_hi_lo v)⟩

/-- The entry at an instruction's opcode byte selects that instruction, with its operand's bytes if it has any (R95). -/
theorem exists_instr_eq (i : Instr) : ∃ b2 b3, (lut i.form.opcode).instr b2 b3 = i := by
  cases i with
  | lxiB v | lxiD v | lxiH v | shld v | lhld v | lxiSp v | sta v | lda v | jnz v | jmp v | cnz v | jz v | cz v | call v
  | jnc v | cnc v | jc v | cc v | jpo v | cpo v | jpe v | cpe v | jp v | cp v | jm v | cm v =>
    exact exists_instr_eq_of_three rfl (fun _ => rfl) v
  | mviB v | mviC v | mviD v | mviE v | mviH v | mviL v | mviM v | mviA v | adi v | aci v | outPort v | sui v | inPort v
  | sbi v | ani v | xri v | ori v | cpi v => exact exists_instr_eq_of_two rfl (fun _ => rfl) v
  | _ => exact ⟨0, 0, rfl⟩

/-- An instruction is as long as R87 lists for its opcode. -/
theorem encode_length (i : Instr) : 1 + i.form.operands.length = opcodeLength i.form.opcode := by
  obtain ⟨b2, b3, hi⟩ := exists_instr_eq i
  have h := encode_lut i.form.opcode b2 b3
  rw [hi] at h
  obtain ⟨-, hoperands⟩ := List.cons.inj h
  rw [hoperands, ← lut_length, Entry.length_eq _ b2 b3, Nat.add_comm]

/-- The bytes of an instruction are an opcode byte and as many operand bytes as it takes. -/
theorem wellFormed_eq_true (i : Instr) : i.wellFormed = true := by
  simp [Instr.wellFormed, wellFormedCode, encode, hasOpcode, hasItsOperands, hasNothingAfter, encode_length]

/-- The bytes of an instruction are those of the entry at its own opcode, which the decoder reads back. -/
theorem decode_encode (i : Instr) (rest : List Byte) : decode (encode i ++ rest) = .ok i rest := by
  obtain ⟨b2, b3, hi⟩ := exists_instr_eq i
  have h := decode_operands i.form.opcode b2 b3 rest
  rwa [← List.cons_append, ← encode_lut, hi] at h

/-- Settles O1: `decode_encode`, and the number of bytes is the one R87 lists. -/
theorem decodeOfEncode : Obligations.DecodeOfEncode := fun i rest => ⟨wellFormed_eq_true i, decode_encode i rest⟩

/-- Two instructions of one form have the same bytes, so they are one instruction. -/
theorem Instr.form_injective : Function.Injective Instr.form := by
  intro i j h
  have hdecode := decode_encode i []
  rw [encode, h, ← encode, decode_encode] at hdecode
  cases hdecode
  rfl

/-- Settles O2: the bytes are an opcode byte and its entry's operand bytes, which is what the instruction encodes to. -/
theorem encodeOfDecode : Obligations.EncodeOfDecode := by
  intro bytes rest i h
  obtain ⟨op, b2, b3, rfl, rfl⟩ := exists_operands_of_decode h
  rw [encode_lut, List.cons_append]

end Sys2Proof
end

section
/-!
The decoder is total (30_encoding.md R82, R95), and what it decodes is what is fetched: the bytes at PC, PC+1, PC+2 that the
opcode's length asks for. Memory as the loader fills it (20_memory.md R72), so that a word placed at PC is the word fetched.
-/

namespace Sys2Proof

/-! ## The decoder is total -/

/-- Bytes fewer than the opcode's length decode to the answer that an operand is missing. -/
theorem decode_of_lt {op : Byte} {operands : List Byte} (h : 1 + operands.length < opcodeLength op) :
    decode (op :: operands) = .missingOperand op := by
  rw [← lut_length] at h
  cases hentry : lut op with
  | one j => simp [hentry, Entry.length] at h
  | two f =>
    match operands with
    | [] => exact decode_two_missing hentry
    | b2 :: tail => simp only [hentry, Entry.length, List.length_cons] at h; omega
  | three f =>
    match operands with
    | [] => exact decode_three_missing hentry
    | [b2] => exact decode_three_missing_high hentry b2
    | b2 :: b3 :: tail => simp only [hentry, Entry.length, List.length_cons] at h; omega

/-- Bytes as many as the opcode's length, or more, decode to an instruction. -/
theorem exists_decode_of_le {op : Byte} {operands : List Byte} (h : opcodeLength op ≤ 1 + operands.length) :
    ∃ i rest, decode (op :: operands) = .ok i rest := by
  rw [← lut_length] at h
  cases hentry : lut op with
  | one j => exact ⟨_, _, decode_one hentry operands⟩
  | two f =>
    match operands with
    | [] => simp [hentry, Entry.length] at h
    | b2 :: tail => exact ⟨_, _, decode_two hentry b2 tail⟩
  | three f =>
    match operands with
    | [] | [_] => simp [hentry, Entry.length] at h
    | b2 :: b3 :: tail => exact ⟨_, _, decode_three hentry b2 b3 tail⟩

/-- Settles O3: with an opcode byte the decoder answers by whether the bytes reach the opcode's length, so that each answer
excludes the other. -/
theorem decodeTotal : Obligations.DecodeTotal := by
  intro bytes
  have hcons (op : Byte) (operands : List Byte) :
      1 + operands.length < opcodeLength op ∧ decode (op :: operands) = .missingOperand op ∨
        opcodeLength op ≤ 1 + operands.length ∧ ∃ i rest, decode (op :: operands) = .ok i rest :=
    (Nat.lt_or_ge _ _).imp (fun h => ⟨h, decode_of_lt h⟩) (fun h => ⟨h, exists_decode_of_le h⟩)
  refine ⟨?_, ?_⟩
  · cases bytes with
    | nil => exact iff_of_true rfl rfl
    | cons op operands =>
      obtain ⟨-, h⟩ | ⟨-, i, rest, h⟩ := hcons op operands <;> simp [h]
  · rintro op operands rfl
    obtain ⟨hlt, h⟩ | ⟨hle, i, rest, h⟩ := hcons op operands
    · simp [h, hlt]
    · simp [h, hle]

end Sys2Proof

namespace Sys2Proof.Machine

/-! ## The bytes at an address -/

@[simp] theorem Memory.length_bytesAt (m : Memory) (addr : Word) (n : Nat) : (m.bytesAt addr n).length = n := by
  induction n generalizing addr with
  | zero => rfl
  | succ n ih => rw [Memory.bytesAt, List.length_cons, ih]

/-- The `k`-th byte from an address on is the one at the address `k` further, modulo 65536. -/
theorem Memory.getElem_bytesAt (m : Memory) (addr : Word) (n k : Nat) (h : k < (m.bytesAt addr n).length) :
    (m.bytesAt addr n)[k] = m.read (addr + BitVec.ofNat 16 k) := by
  induction n generalizing addr k with
  | zero => cases h
  | succ n ih =>
    cases k with
    | zero => simp [Memory.bytesAt]
    | succ k =>
      have hnext : addr + 1 + BitVec.ofNat 16 k = addr + BitVec.ofNat 16 (k + 1) := by
        rw [BitVec.ofNat_add, BitVec.add_assoc, BitVec.add_comm 1]
        rfl
      simp only [Memory.bytesAt, List.getElem_cons_succ, ih, hnext]

/-- The bytes of the instruction fetched are those its step reads (R82). -/
theorem State.fetchBytes_eq_encode (s : State) : s.fetchBytes = encode s.fetchInstr := by
  rw [State.encode_fetchInstr, State.fetchBytes]
  cases s.entry with
  | one | two => rfl
  | three f =>
    rw [Entry.operands, operand16_imm16, ← Word.add_one_add_one]
    rfl

/-- Settles O7: the bytes fetched by `State.fetchBytes_eq_encode`; their number is the entry's length, 1, 2 or 3, which is
the opcode's. -/
theorem fetchReadsTheInstruction : Obligations.FetchReadsTheInstruction := by
  refine fun s => ⟨s.fetchBytes_eq_encode, ?_⟩
  rw [← lut_length, State.fetchBytes, ← Word.add_one_add_one]
  change _ = (List.take s.entry.length _).map _
  cases s.entry with
  | one | two | three => rfl

/-! ## Memory as the loader fills it (R72) -/

/-- Settles O14, by induction on the image: the first byte lies at an address that no later byte reaches, since the image is
no longer than memory; every later byte is one address nearer to the rest of the image. -/
theorem loaderPlacesTheImage : Obligations.LoaderPlacesTheImage := by
  intro m addr image hlen x
  induction image generalizing m addr with
  | nil => rfl
  | cons v vs ih =>
    rw [List.length_cons] at hlen
    rw [Memory.load, ih _ _ (by omega), Memory.read_write]
    by_cases hx : x = addr
    · have hlast : ¬ (x - (addr + 1)).toNat < vs.length := by subst hx; bv_omega
      rw [dif_neg hlast]
      simp [hx]
    · have hnext : (x - addr).toNat = (x - (addr + 1)).toNat + 1 := by bv_omega
      simp [hnext, hx]

/-- An image no longer than memory reads back as the bytes from its address on. -/
theorem Memory.bytesAt_load (m : Memory) (addr : Word) (image : List Byte) (h : image.length ≤ 65536) :
    (m.load addr image).bytesAt addr image.length = image := by
  refine List.ext_getElem (Memory.length_bytesAt _ _ _) (fun k hk hk' => ?_)
  have hoffset : (addr + BitVec.ofNat 16 k - addr).toNat = k := by
    rw [BitVec.add_comm, BitVec.add_sub_cancel, BitVec.toNat_ofNat]
    omega
  rw [Memory.getElem_bytesAt, loaderPlacesTheImage m addr image h]
  simp only [hoffset, hk', dif_pos]

/-! ## A word placed at PC -/

/-- The three bytes of a table word hold a whole instruction. -/
theorem exists_decode_tableBytes (nbits w : Nat) : ∃ i rest, decode (tableBytes nbits w) = .ok i rest := by
  refine exists_decode_of_le ?_
  unfold opcodeLength
  split
  · rfl
  · split <;> simp

/-- Settles O8: the three bytes placed are the three bytes at PC, they decode, and the step runs what they decode to. -/
theorem placedWordRuns : Obligations.PlacedWordRuns := by
  intro s nbits w
  obtain ⟨i, rest, hdecode⟩ := exists_decode_tableBytes nbits w
  refine ⟨i, by rw [decodeTableWord, hdecode], ?_⟩
  have hbytes : (s.withFetchWord nbits w).mem.bytesAt (s.withFetchWord nbits w).pc 3 = tableBytes nbits w :=
    Memory.bytesAt_load s.mem s.pc (tableBytes nbits w) (by simp [tableBytes])
  exact stepRunsDecoded (s.withFetchWord nbits w) 3 i rest rfl (hbytes ▸ hdecode)

/-! ## The canonical form -/

/-- A byte that is read and is not the default is listed. -/
theorem Memory.mem_of_lookup {m : Memory} {n : Nat} {v : Byte} (h : m.lookup n = v) (hv : v ≠ Config.unlistedByte) :
    (n, v) ∈ m := by
  induction m with
  | nil => exact absurd h.symm hv
  | cons c m ih =>
    rw [Memory.lookup] at h
    split at h
    · next hn => exact List.mem_cons.2 (.inl (Prod.ext hn.symm h.symm))
    · exact List.mem_cons_of_mem c (ih h)

/-- A listed byte is read at its address, since the addresses rise. -/
theorem Memory.lookup_of_mem {m : Memory} (hm : m.wf) {c : Host.Cell} (hc : c ∈ m) : m.lookup c.1 = c.2 := by
  obtain ⟨hsorted, -⟩ := hm
  induction m with
  | nil => cases hc
  | cons d m ih =>
    obtain ⟨hd, hsorted⟩ := List.pairwise_cons.1 hsorted
    rw [Memory.lookup]
    rcases List.mem_cons.1 hc with rfl | hc
    · exact if_pos rfl
    · rw [if_neg (hd c hc).ne, ih hc hsorted]

/-- A canonical memory lists no byte that a memory reading alike does not list. -/
theorem Memory.subset_of_read {m n : Memory} (hm : m.wf) (h : ∀ x : Word, m.read x = n.read x) : m ⊆ n := by
  intro c hc
  have ⟨_, hcells⟩ := hm
  obtain ⟨haddr, hbyte⟩ := hcells c hc
  have hread := h (BitVec.ofNat 16 c.1)
  rw [Memory.read, Memory.read, BitVec.toNat_ofNat, Nat.mod_eq_of_lt haddr, Memory.lookup_of_mem hm hc] at hread
  exact Memory.mem_of_lookup hread.symm hbyte

/-- Settles O13: each memory lists what the other lists, both in the one rising order. -/
theorem canonicalMemoryIsItsContent : Obligations.CanonicalMemoryIsItsContent := by
  intro m n hm hn h
  have hirrefl : Std.Irrefl (fun x y : Host.Cell => x.1 < y.1) := ⟨fun c => Nat.lt_irrefl c.1⟩
  have hantisymm : Std.Antisymm (fun x y : Host.Cell => x.1 < y.1) := ⟨fun _ _ h h' => absurd h' h.asymm⟩
  have ⟨hsorted, _⟩ := hm
  have ⟨hsorted', _⟩ := hn
  exact List.Subset.antisymm_of_pairwise hsorted hsorted' (Memory.subset_of_read hm h)
    (Memory.subset_of_read hn fun x => (h x).symm)

end Sys2Proof.Machine
end

section
/-!
PUSH and POP against each other (20_memory.md R62, 95_test_vectors.md S-3), the reset values the model chooses, and the
instructions of the I/O interface.
-/

namespace Sys2Proof.Machine

/-! ## A push and a pop of any word -/

theorem Word.sub_two_add_one (v : Word) : v - 2 + 1 = v - 1 := by bv_omega

/-- The word pushed lies at the new SP, where a pop finds it. -/
@[simp] theorem State.top16_push16 (s : State) (v : Word) : (s.push16 v).top16 = v := by
  rw [State.top16, State.push16_sp, State.read_push16, State.read_push16, Word.sub_two_add_one, if_pos rfl,
    if_neg (Word.sub_two_ne_sub_one s.sp).symm, if_pos rfl, word_hi_lo]

/-- A pop after a push leaves the state as it was, but for the stack bytes the push wrote. -/
theorem State.drop16_push16 (s : State) (v : Word) : (s.push16 v).drop16 = { s with mem := (s.push16 v).mem } := by
  rw [State.drop16_eq, State.push16_sp, BitVec.sub_add_cancel]
  rfl

/-- Settles O15: the word by `State.top16_push16`, SP by `State.drop16_push16`, the bytes by `State.pushes_push16`. -/
theorem popOfPush : Obligations.PopOfPush := fun s v =>
  ⟨s.top16_push16 v, by rw [State.drop16_push16], rfl, s.top16_push16 v, s.pushes_push16 v⟩

/-! ## PUSH rp, then POP rp -/

/-- A flag byte unpacked over the flags it was packed from gives them back. -/
@[simp] theorem Flags.unpack_pack (f : Flags) : f.unpack f.pack = f := by
  obtain ⟨hcy, -, hp, -, -, -, hz, hs⟩ := flagByte_bits f
  rw [Flags.pack_eq_flagByte, Flags.unpack, hcy, hp, hz, hs]

/-- A pair written with the word it holds is unchanged. -/
theorem State.setRps_rps (s : State) (p : Rps) : s.setRps p (s.rps p) = s := by
  cases p with
  | bc | de | hl => simp [State.setRps, State.rps, State.setBC, State.setDE, State.setHL, State.bc, State.de, State.hl]
  | psw => simp [State.setRps, State.rps]

/-- A pair reads the same whatever memory and PC hold. -/
theorem State.rps_mem_pc (s : State) (p : Rps) (m : Memory) (pc : Word) : { s with mem := m, pc := pc }.rps p = s.rps p := by
  cases p <;> rfl

/-- A pair popped where it was just pushed is unchanged; PC and memory are those the push left. -/
theorem State.popPair_pushPair (s : State) (p : Rps) :
    popPair p ((s.push16 (s.rps p)).advance 1) =
      .next { s with mem := (s.push16 (s.rps p)).mem, pc := s.pc + 1 + 1 } := by
  have htop : ((s.push16 (s.rps p)).advance 1).top16 = s.rps p := s.top16_push16 (s.rps p)
  have hdrop : ((s.push16 (s.rps p)).advance 1).drop16 =
      { s with mem := (s.push16 (s.rps p)).mem, pc := s.pc + 1 } :=
    congrArg (State.advance · 1) (s.drop16_push16 (s.rps p))
  have hset (m : Memory) (pc : Word) :
      { s with mem := m, pc := pc }.setRps p (s.rps p) = { s with mem := m, pc := pc } :=
    (congrArg _ (s.rps_mem_pc p m pc)).symm.trans (State.setRps_rps _ p)
  rw [popPair, htop, hdrop, hset]
  rfl

/-- Settles O16: `State.popPair_pushPair` is the whole state, and the stack bytes are those of the push. -/
theorem pushThenPopRestores : Obligations.PushThenPopRestores := by
  intro i j p s t u hi hj hpush hpop
  cases (exec_of_form hi s).symm.trans hpush
  cases (s.popPair_pushPair p).symm.trans ((exec_of_form hj _).symm.trans hpop)
  obtain ⟨-, hstores⟩ := s.pushes_push16 (s.rps p)
  rw [State.hiByte_rps, State.loByte_rps] at hstores
  exact ⟨by rw [Word.add_one_add_one], hstores⟩

/-! ## Reset -/

/-- Settles O10: the names of Config stand for the values of log entries 1, 2 and 3. -/
theorem resetChoicesOfTheModel : Obligations.ResetChoicesOfTheModel := ⟨rfl, fun _ => rfl, fun _ _ _ => ⟨rfl, rfl⟩⟩

/-- Settles O58: reset leaves AC false and STATUS Running, which has no fault to record; memory is the image given. -/
theorem resetMeetsInvariant : Obligations.ResetMeetsInvariant := by
  have hreset (spInit pcInit : Word) (m : Memory) (h : m.wf) : Inv (State.resetWith spInit pcInit m) :=
    ⟨h, rfl, fun _ _ hfaulted => nomatch hfaulted⟩
  exact ⟨hreset _ _ _ State.reset_mem_wf, hreset⟩

/-! ## The I/O interface -/

/-- Settles O46: IN writes A, PC and the model's two fields; OUT adds its event. -/
theorem inputAndOutput : Obligations.InputAndOutput := fun _ _ => ⟨⟨rfl, _, rfl, rfl⟩, rfl, rfl⟩

/-- Settles O47: `State.ioIn` is the free value at the number of the draw. -/
theorem inputIsDrawnAndRecorded : Obligations.InputIsDrawnAndRecorded := fun _ _ => rfl

end Sys2Proof.Machine
end

section
/-!
What writes each field of the state (10_state.md R21, R26, R29-R32, 20_memory.md R70): for every form, what it leaves in the
byte registers, the flags, SP, and the fields that control the run and the I/O interface.
-/

namespace Sys2Proof.Machine

/-! ## INTE, STATUS, the draw number and the I/O record, as each form leaves them -/

/-- INTE after a form (R32). -/
def State.inteAfter (s : State) : Form → Bool
  | .ei => true
  | .di => false
  | _ => s.inte

/-- STATUS after a form (R31). -/
def State.statusAfter (s : State) : Form → Status
  | .hlt => .halted
  | .daa => .faulted 0x27 s.pc
  | .undocumented op => .faulted op s.pc
  | _ => s.status

/-- The draw number after a form. -/
def State.drawsAfter (s : State) : Form → Nat
  | .inPort _ => s.draws + 1
  | _ => s.draws

/-- The I/O events of a form (R70). -/
def State.ioEvents (s : State) : Form → List IoEvent
  | .inPort port => [.input port (s.ioIn port)]
  | .outPort port => [.output port s.a]
  | _ => []

/-- A state's control fields are those a form leaves. -/
def ControlAfter (s : State) (form : Form) (t : State) : Prop :=
  t.inte = s.inteAfter form ∧ t.status = s.statusAfter form ∧ t.draws = s.drawsAfter form ∧
    t.io = s.io ++ s.ioEvents form

/-! ## Registers under the updates of a form -/

section

variable (s : State) (r : Reg8)

theorem State.reg_advance (len : Word) : (s.advance len).reg r = s.reg r := by cases r <;> rfl

theorem State.reg_flags (f : Flags) : { s with flags := f }.reg r = s.reg r := by cases r <;> rfl

theorem State.reg_setBC (hr : r ∉ [Reg8.b, .c]) (v : Word) : (s.setBC v).reg r = s.reg r := by
  cases r with
  | b | c => exact absurd hr (by decide)
  | a | d | e | h | l => rfl

theorem State.reg_setDE (hr : r ∉ [Reg8.d, .e]) (v : Word) : (s.setDE v).reg r = s.reg r := by
  cases r with
  | d | e => exact absurd hr (by decide)
  | a | b | c | h | l => rfl

theorem State.reg_setHL (hr : r ∉ [Reg8.h, .l]) (v : Word) : (s.setHL v).reg r = s.reg r := by
  cases r with
  | h | l => exact absurd hr (by decide)
  | a | b | c | d | e => rfl

theorem State.reg_setRp {p : Rp} (hr : r ∉ rpRegs p) (v : Word) : (s.setRp p v).reg r = s.reg r := by
  cases p with
  | bc => exact s.reg_setBC r hr v
  | de => exact s.reg_setDE r hr v
  | hl => exact s.reg_setHL r hr v
  | sp => cases r <;> rfl

theorem State.reg_setRps {p : Rps} (hr : r ∉ rpsRegs p) (v : Word) : (s.setRps p v).reg r = s.reg r := by
  cases p with
  | bc => exact s.reg_setBC r hr v
  | de => exact s.reg_setDE r hr v
  | hl => exact s.reg_setHL r hr v
  | psw =>
    cases r with
    | a => exact absurd hr (by decide)
    | b | c | d | e | h | l => rfl

/-- An ALU operation writes A unless it compares (R145). -/
theorem State.reg_alu {op : AluOp} (hr : r ∉ if op = .cmp then [] else [Reg8.a]) (v : Byte) :
    (s.alu op v).reg r = s.reg r := by
  cases r with
  | a =>
    have hcmp : op = .cmp := by simpa using hr
    subst hcmp
    rfl
  | b | c | d | e | h | l => rfl

end

/-! ## Every form -/

/-- The forms with a condition (R90). -/
def isConditional : Form → Bool
  | .jcc _ _ | .ccc _ _ | .rcc _ => true
  | _ => false

section

variable {form : Form} {s t : State} (h : execForm form s = .next t)

include h

/-- A conditional transfer, taken or not, leaves everything but SP, PC and memory. -/
theorem conditional_frame (hcond : isConditional form = true) : t = { s with sp := t.sp, pc := t.pc, mem := t.mem } := by
  cases form with
  | jcc cc addr =>
    cases (jumpIf_eq cc addr s).symm.trans h
    rfl
  | ccc cc addr =>
    cases (callIf_eq cc addr s).symm.trans h
    split <;> rfl
  | rcc cc =>
    cases (returnIf_eq cc s).symm.trans h
    split <;> rfl
  | _ => cases hcond

/-- A byte register is written only by the forms R21 lists for it. -/
theorem execForm_reg {r : Reg8} (hr : r ∉ writtenRegs form) : t.reg r = s.reg r := by
  cases form with
  | jcc | ccc | rcc => rw [conditional_frame h rfl]; cases r <;> rfl
  | movRR dst | movRM dst | mvi dst | inr dst | dcr dst =>
    have hne : r ≠ dst := fun heq => hr (List.mem_singleton.2 heq)
    cases h
    simp only [State.reg_advance, State.reg_flags, State.setReg_reg, hne, if_false]
  | lxi p | inx p | dcx p => cases h; exact (State.reg_advance _ r _).trans (State.reg_setRp s r hr _)
  | pop p =>
    cases h
    exact (State.reg_advance _ r _).trans ((State.reg_setRps _ r hr _).trans (by cases r <;> rfl))
  | aluR | aluM | aluI => cases h; exact (State.reg_advance _ r _).trans (State.reg_alu s r hr _)
  | rlc | rrc | ral | rar | cma | lda | ldax | inPort =>
    cases h
    cases r with
    | a => exact absurd (List.mem_singleton.2 rfl) hr
    | b | c | d | e | h | l => rfl
  | dad => cases h; rw [State.reg_advance, State.reg_flags, State.reg_setHL s r hr]
  | lhld => cases h; rw [State.reg_advance, State.reg_setHL s r hr]
  | xthl => cases h; rw [State.reg_advance, State.reg_setHL _ r hr]; cases r <;> rfl
  | xchg =>
    obtain ⟨hde, hhl⟩ : r ∉ [Reg8.d, .e] ∧ r ∉ [Reg8.h, .l] := not_or.1 (mt List.mem_append.2 hr)
    cases h
    rw [State.reg_advance, State.reg_setDE _ r hde, State.reg_setHL s r hhl]
  | _ => cases h; cases r <;> rfl

/-- SP is written only by the forms R29 lists. -/
theorem execForm_sp (hsp : writesSP form = false) : t.sp = s.sp := by
  cases form with
  | push | pop | call | ccc | ret | rcc | rst | sphl => cases hsp
  | jcc cc addr => rw [execForm, jumpIf_eq] at h; cases h; rfl
  | lxi p | inx p | dcx p =>
    cases h
    cases p with
    | sp => cases hsp
    | bc | de | hl => rfl
  | movRR | movRM | mvi | inr | dcr => cases h; exact State.setReg_sp ..
  | _ => cases h; rfl

/-- Z, S and P are written only by the forms R26 lists for them, CY only by those it lists for it, and AC by none. -/
theorem execForm_flags :
    (writesZSP form = false → t.flags.z = s.flags.z ∧ t.flags.s = s.flags.s ∧ t.flags.p = s.flags.p) ∧
      (writesCY form = false → t.flags.cy = s.flags.cy) ∧ t.flags.ac = s.flags.ac := by
  cases form with
  | aluR | aluM | aluI => cases h; exact ⟨nofun, nofun, rfl⟩
  | inrM | dcrM => cases h; exact ⟨nofun, fun _ => rfl, rfl⟩
  | inr r | dcr r => cases h; exact ⟨nofun, fun _ => rfl, rfl⟩
  | dad | rlc | rrc | ral | rar | stc | cmc => cases h; exact ⟨fun _ => ⟨rfl, rfl, rfl⟩, nofun, rfl⟩
  | pop p =>
    cases h
    cases p with
    | psw => exact ⟨nofun, nofun, rfl⟩
    | bc | de | hl => exact ⟨fun _ => ⟨rfl, rfl, rfl⟩, fun _ => rfl, rfl⟩
  | jcc | ccc | rcc => rw [conditional_frame h rfl]; exact ⟨fun _ => ⟨rfl, rfl, rfl⟩, fun _ => rfl, rfl⟩
  | movRR | movRM | mvi | lxi | inx | dcx => cases h; simp
  | _ => cases h; exact ⟨fun _ => ⟨rfl, rfl, rfl⟩, fun _ => rfl, rfl⟩

/-- INTE, STATUS, the draw number and the I/O record are what the form leaves in them. -/
theorem execForm_control : ControlAfter s form t := by
  cases form with
  | jcc | ccc | rcc =>
    rw [conditional_frame h rfl]
    exact ⟨rfl, rfl, rfl, (List.append_nil _).symm⟩
  | movRR | movRM | mvi | inr | dcr | lxi | inx | dcx | pop =>
    cases h
    simp [ControlAfter, State.inteAfter, State.statusAfter, State.drawsAfter, State.ioEvents]
  | inPort | outPort => cases h; exact ⟨rfl, rfl, rfl, rfl⟩
  | _ => cases h; exact ⟨rfl, rfl, rfl, (List.append_nil _).symm⟩

end

/-- Every form answers a next state: no meaning faults or refuses (R281). -/
theorem exists_execForm_eq_next (form : Form) (s : State) : ∃ t, execForm form s = .next t := by
  cases form with
  | jcc cc addr => exact ⟨_, jumpIf_eq cc addr s⟩
  | ccc cc addr => exact ⟨_, callIf_eq cc addr s⟩
  | rcc cc => exact ⟨_, returnIf_eq cc s⟩
  | _ => exact ⟨_, rfl⟩

/-! ## Every instruction -/

theorem execForm_of_exec {i : Instr} {s t : State} (h : exec i s = .next t) : execForm i.form s = .next t :=
  (exec_eq_execForm i s).symm.trans h

/-- Settles O51: `execForm_reg` for the instruction's form. -/
theorem registerWriters : Obligations.RegisterWriters :=
  fun _ _ _ _ h hr => execForm_reg (execForm_of_exec h) hr

/-- Settles O52: `execForm_flags` for the instruction's form. -/
theorem flagWriters : Obligations.FlagWriters := fun _ _ _ h => execForm_flags (execForm_of_exec h)

/-! The control fields a form leaves are those before it, but for the forms that write them. -/

section

variable {s : State} {form : Form}

theorem State.inteAfter_eq (hei : form ≠ .ei) (hdi : form ≠ .di) : s.inteAfter form = s.inte := by
  cases form with
  | ei => exact absurd rfl hei
  | di => exact absurd rfl hdi
  | _ => rfl

theorem State.statusAfter_eq (hhlt : form ≠ .hlt) (hop : isUnimplemented form = false) :
    s.statusAfter form = s.status := by
  cases form with
  | hlt => exact absurd rfl hhlt
  | daa | undocumented => cases hop
  | _ => rfl

theorem State.drawsAfter_eq (hin : ∀ port, form ≠ .inPort port) : s.drawsAfter form = s.draws := by
  cases form with
  | inPort port => exact absurd rfl (hin port)
  | _ => rfl

theorem State.ioEvents_eq_nil (hin : ∀ port, form ≠ .inPort port) (hout : ∀ port, form ≠ .outPort port) :
    s.ioEvents form = [] := by
  cases form with
  | inPort port => exact absurd rfl (hin port)
  | outPort port => exact absurd rfl (hout port)
  | _ => rfl

end

/-- Settles O53: SP by `execForm_sp`; each control field is what `execForm_control` says the form leaves, and only the forms
of the instructions named leave another value than before. -/
theorem controlStateWriters : Obligations.ControlStateWriters := by
  intro i s t h
  obtain ⟨hinte, hstatus, hdraws, hio⟩ := execForm_control (execForm_of_exec h)
  refine ⟨execForm_sp (execForm_of_exec h), fun hei hdi => ?_, fun hhlt hop => ?_, fun hin => ?_, fun hin hout => ?_⟩
  · rw [hinte, State.inteAfter_eq (Instr.form_injective.ne hei) (Instr.form_injective.ne hdi)]
  · rw [hstatus, State.statusAfter_eq (Instr.form_injective.ne hhlt) hop]
  · rw [hdraws, State.drawsAfter_eq fun port => Instr.form_injective.ne (hin port)]
  · rw [hio, State.ioEvents_eq_nil (fun port => Instr.form_injective.ne (hin port))
      (fun port => Instr.form_injective.ne (hout port)), List.append_nil]

end Sys2Proof.Machine
end

section
/-!
A step as a whole: its ordered accesses account for what it does to memory and to the I/O interface (20_memory.md R71), it
completes (70_reset_and_hazards.md R281), it keeps the invariant, and it does not read the I/O record.
-/

namespace Sys2Proof.Machine

/-- An access that takes a byte from memory takes the one that the memory holds. -/
def Access.readsFrom (m : Memory) : Access → Prop
  | .fetch addr v | .read addr v => v = m.read addr
  | .write _ _ | .io _ => True

/-! ## The accesses of a fetch: reads, and nothing else -/

theorem Memory.replay_fetchAccesses (m m' : Memory) (addr : Word) (n : Nat) :
    m'.replay (fetchAccesses m addr n) = m' := by
  induction n generalizing addr with
  | zero => rfl
  | succ n ih => exact ih (addr + 1)

theorem filterMap_fetchAccesses (m : Memory) (addr : Word) (n : Nat) :
    (fetchAccesses m addr n).filterMap Access.ioEvent = [] := by
  induction n generalizing addr with
  | zero => rfl
  | succ n ih => exact ih (addr + 1)

theorem fetchAccesses_readsFrom (m : Memory) (addr : Word) (n : Nat) : ∀ a ∈ fetchAccesses m addr n, a.readsFrom m := by
  induction n generalizing addr with
  | zero => nofun
  | succ n ih => exact List.forall_mem_cons.2 ⟨rfl, ih (addr + 1)⟩

/-! ## The accesses of each form -/

/-- Memory after a form is memory before it with the form's writes in their order. -/
theorem execForm_mem {form : Form} {s t : State} (h : execForm form s = .next t) :
    t.mem = s.mem.replay (s.formAccesses form) := by
  cases form with
  | jcc cc addr => cases (jumpIf_eq cc addr s).symm.trans h; rfl
  | ccc cc addr =>
    cases (callIf_eq cc addr s).symm.trans h
    cases hcond : s.flags.cond cc <;> simp [State.formAccesses, hcond] <;> rfl
  | rcc cc =>
    cases (returnIf_eq cc s).symm.trans h
    cases hcond : s.flags.cond cc <;> simp [State.formAccesses, hcond] <;> rfl
  | movRR | movRM | mvi | inr | dcr => cases h; exact State.setReg_mem ..
  | lxi | inx | dcx => cases h; exact State.setRp_mem ..
  | pop => cases h; exact State.setRps_mem ..
  | _ => cases h; rfl

/-- The I/O events among a form's accesses are the form's. -/
theorem filterMap_formAccesses (s : State) (form : Form) :
    (s.formAccesses form).filterMap Access.ioEvent = s.ioEvents form := by
  cases form with
  | ccc cc addr | rcc cc =>
    simp only [State.formAccesses]
    split <;> rfl
  | _ => rfl

theorem State.wordReads_readsFrom (s : State) (addr : Word) : ∀ a ∈ s.wordReads addr, a.readsFrom s.mem :=
  List.forall_mem_cons.2 ⟨rfl, List.forall_mem_singleton.2 rfl⟩

theorem wordWrites_readsFrom (m : Memory) (addr v : Word) : ∀ a ∈ wordWrites addr v, a.readsFrom m :=
  List.forall_mem_cons.2 ⟨trivial, List.forall_mem_singleton.2 trivial⟩

theorem State.pushWrites_readsFrom (s : State) (m : Memory) (v : Word) : ∀ a ∈ s.pushWrites v, a.readsFrom m :=
  List.forall_mem_cons.2 ⟨trivial, List.forall_mem_singleton.2 trivial⟩

/-- A form reads the bytes that memory holds before it. -/
theorem formAccesses_readsFrom (s : State) (form : Form) : ∀ a ∈ s.formAccesses form, a.readsFrom s.mem := by
  cases form with
  | movRM | aluM | lda | ldax => exact List.forall_mem_singleton.2 rfl
  | movMR | mviM | sta | stax | inPort | outPort => exact List.forall_mem_singleton.2 trivial
  | inrM | dcrM => exact List.forall_mem_cons.2 ⟨rfl, List.forall_mem_singleton.2 trivial⟩
  | lhld | pop | ret => exact s.wordReads_readsFrom _
  | shld => exact wordWrites_readsFrom s.mem _ _
  | push | call | rst => exact s.pushWrites_readsFrom s.mem _
  | xthl => exact List.forall_mem_append.2 ⟨s.wordReads_readsFrom s.sp, wordWrites_readsFrom s.mem s.sp s.hl⟩
  | ccc cc addr =>
    rw [State.formAccesses]
    split
    · exact s.pushWrites_readsFrom s.mem (s.pc + 3)
    · nofun
  | rcc cc =>
    rw [State.formAccesses]
    split
    · exact s.wordReads_readsFrom s.sp
    · nofun
  | _ => nofun

/-! ## A step -/

/-- All a step can do: from Running, what the form of the instruction fetched does; otherwise nothing. -/
theorem step_cases {s t : State} (h : step s = .next t) :
    s.status = .running ∧ execForm s.fetchInstr.form s = .next t ∨ s.status ≠ .running ∧ t = s := by
  by_cases hrunning : s.status = .running
  · exact .inl ⟨hrunning, execForm_of_exec ((step_running hrunning).symm.trans h)⟩
  · cases (step_not_running hrunning).symm.trans h
    exact .inr ⟨hrunning, rfl⟩

theorem State.accesses_running {s : State} (h : s.status = .running) :
    s.accesses = fetchAccesses s.mem s.pc s.entry.length ++ s.formAccesses s.fetchInstr.form := by
  simp only [State.accesses, State.isRunning, h, decide_true, if_true]

/-- Memory after a step is memory before it with the step's writes in their order. -/
theorem step_mem {s t : State} (h : step s = .next t) : t.mem = s.mem.replay s.accesses := by
  obtain ⟨hrunning, h⟩ | ⟨hended, rfl⟩ := step_cases h
  · rw [State.accesses_running hrunning, Memory.replay, List.foldl_append]
    exact (execForm_mem h).trans
      (congrArg (Memory.replay · (s.formAccesses s.fetchInstr.form)) (Memory.replay_fetchAccesses ..).symm)
  · rw [State.accesses_not_running hended]
    rfl

/-- The events a step records are those among its accesses. -/
theorem step_io {s t : State} (h : step s = .next t) : t.io = s.io ++ s.accesses.filterMap Access.ioEvent := by
  obtain ⟨hrunning, h⟩ | ⟨hended, rfl⟩ := step_cases h
  · obtain ⟨-, -, -, hio⟩ := execForm_control h
    rw [State.accesses_running hrunning, List.filterMap_append, filterMap_fetchAccesses, filterMap_formAccesses,
      List.nil_append, hio]
  · rw [State.accesses_not_running hended, List.filterMap_nil, List.append_nil]

/-- All a step reads is what memory held before it (R277). -/
theorem State.accesses_readsFrom (s : State) : ∀ a ∈ s.accesses, a.readsFrom s.mem := by
  unfold State.accesses
  split
  · exact List.forall_mem_append.2 ⟨fetchAccesses_readsFrom s.mem s.pc s.entry.length, formAccesses_readsFrom s _⟩
  · nofun

/-- Settles O56: memory by `step_mem`, the events by `step_io`, the bytes fetched and read by `State.accesses_readsFrom`. -/
theorem accessesAccountForTheStep : Obligations.AccessesAccountForTheStep := fun s _ h =>
  ⟨step_mem h, step_io h, fun _ _ hread => hread.elim (s.accesses_readsFrom _) (s.accesses_readsFrom _)⟩

/-! ## Completion -/

/-- From Running a step answers STATUS Halted only for HLT. -/
theorem State.statusAfter_eq_halted {s : State} {form : Form} (hrunning : s.status = .running)
    (h : s.statusAfter form = .halted) : form = .hlt := by
  cases form with
  | hlt => rfl
  | daa | undocumented => cases h
  | _ => cases hrunning.symm.trans h

/-- From Running a step answers STATUS Faulted only for an opcode with no handler, with its byte and its address (R240). -/
theorem State.statusAfter_eq_faulted {s : State} {form : Form} {op : Byte} {addr : Word}
    (hrunning : s.status = .running) (h : s.statusAfter form = .faulted op addr) :
    isUnimplemented form = true ∧ op = form.opcode ∧ addr = s.pc := by
  cases form with
  | hlt => cases h
  | daa | undocumented => cases h; exact ⟨rfl, rfl, rfl⟩
  | _ => cases hrunning.symm.trans h

/-- A step answers a next state, from every state (R281). -/
theorem exists_step_eq_next (s : State) : ∃ t, step s = .next t := by
  by_cases hrunning : s.status = .running
  · rw [step_running hrunning, exec_eq_execForm]
    exact exists_execForm_eq_next _ s
  · exact ⟨s, step_not_running hrunning⟩

/-- Settles O60: the STATUS of the next state is what the form fetched leaves, which ends a run only for HLT and for an
opcode with no handler. -/
theorem everyStepCompletes : Obligations.EveryStepCompletes := by
  intro s
  obtain ⟨t, h⟩ := exists_step_eq_next s
  obtain ⟨hrunning, hform⟩ | ⟨hended, rfl⟩ := step_cases h
  · obtain ⟨-, hstatus, -, -⟩ := execForm_control hform
    refine ⟨t, h, fun _ hhalted => ?_, fun _ ⟨op, addr, hfaulted⟩ => ?_⟩
    · exact Instr.form_injective (State.statusAfter_eq_halted hrunning (hstatus.symm.trans hhalted))
    · obtain ⟨hop, -, -⟩ := State.statusAfter_eq_faulted hrunning (hstatus.symm.trans hfaulted)
      exact hop
  · exact ⟨t, h, fun hrunning => absurd hrunning hended, fun hrunning => absurd hrunning hended⟩

/-! ## The invariant -/

/-- Every list of accesses keeps the canonical form. -/
theorem Memory.wf_replay {m : Memory} (h : m.wf) (as : List Access) : (m.replay as).wf := by
  induction as generalizing m with
  | nil => exact h
  | cons a as ih =>
    cases a with
    | write addr v => exact ih (Memory.wf_write m addr v h)
    | fetch | read | io => exact ih h

/-- A step from Running leaves a fault record that is true: the opcode is the byte fetched at PC, and neither memory nor PC
is written. -/
theorem faultRecordTrue_of_running {s t : State} (hrunning : s.status = .running)
    (h : execForm s.fetchInstr.form s = .next t) : FaultRecordTrue t := by
  intro op addr hfaulted
  obtain ⟨-, hstatus, -, -⟩ := execForm_control h
  obtain ⟨hop, rfl, rfl⟩ := State.statusAfter_eq_faulted hrunning (hstatus.symm.trans hfaulted)
  have hmember : s.fetchInstr.form.opcode ∈ unimplementedOpcodes :=
    List.contains_iff_mem.1 ((isUnimplemented_eq_contains s.fetchInstr).symm.trans hop)
  obtain ⟨hfetched, -⟩ := List.cons.inj s.encode_fetchInstr
  rw [execForm_of_isUnimplemented hop] at h
  cases h
  exact ⟨rfl, hfetched.symm, hmember⟩

/-- Settles O57: memory stays canonical since a step's effect on it is a list of writes, AC is written by no form, and the
fault record is true of a step from Running and unchanged otherwise. -/
theorem stepKeepsInvariant : Obligations.StepKeepsInvariant := by
  intro s t hinv hstep
  obtain ⟨hrunning, h⟩ | ⟨-, rfl⟩ := step_cases hstep
  · obtain ⟨hwf, hac, -⟩ := hinv
    obtain ⟨-, -, hkept⟩ := execForm_flags h
    exact ⟨step_mem hstep ▸ Memory.wf_replay hwf s.accesses, hkept.trans hac, faultRecordTrue_of_running hrunning h⟩
  · exact hinv

/-! ## The I/O record -/

/-- A step commutes with past events set before the recorded ones. -/
theorem step_disturb_id (past : List IoEvent) (s : State) :
    step (s.disturb id past) = Result.mapNext (State.disturb id past) (step s) := by
  by_cases hrunning : s.status = .running
  · have hfetch : (s.disturb id past).fetchInstr = s.fetchInstr := rfl
    rw [step_running hrunning, step_running (s := s.disturb id past) hrunning, hfetch]
    exact exec_disturb id past s s.fetchInstr (fun _ => rfl) (fun _ => rfl)
  · rw [step_not_running hrunning, step_not_running (s := s.disturb id past) hrunning]
    rfl

/-- Settles O55: past events with INTE kept are the disturbance that `step_disturb_id` carries through a step. -/
theorem ioRecordIsNeverRead : Obligations.IoRecordIsNeverRead := by
  intro s t past h
  calc step { s with io := past ++ s.io }
      = Result.mapNext (State.disturb id past) (step s) := step_disturb_id past s
    _ = .next { t with io := past ++ t.io } := by rw [h]; rfl

end Sys2Proof.Machine
end
